-- ==== Sys2Proof/Word.lean ====
section
/-!
DEFINITION. The word types of the pms700x framer (spec/00_scope.md section 6): `u8`, `u16` and the
opaque error value of the TX transport. Nothing in this hardware is signed.
-/

namespace Sys2Proof

/-- `u8`: the unit of both wires and of the RX buffer (00_scope.md section 6; the data path is 8 bits wide). -/
abbrev Byte := BitVec 8

/-- `u16`: payloads, checksums and decoded fields (00_scope.md section 6). -/
abbrev Half := BitVec 16

/-- A value of `ERR`, the transport's "associated opaque error type" (U2, D18: OPEN, any type). The block
passes it through and never inspects it. DESIGN CHOICE (log 4): a natural number, which any bit vector of any
width embeds in. -/
abbrev ErrCode := Nat

end Sys2Proof
end

