-- ==== Sys2Proof/Config.lean ====
section
/-!
DEFINITION. The free values of the model: the open parameters `NONE_CODE` and `RESET_BUF` of
spec/92_eei_decisions.md, the unspecified value of `tx_data` while `tx_valid = 0` (R24) and the
unspecified registers before the first `RESET` (R126). Each is a constant without a body, so that a
statement about it holds for every value it may have.
-/

namespace Sys2Proof

/-- `NONE_CODE`, the wire code of the sentinel `None`: OPEN, any `u8` (R5, D14). Log 2. -/
opaque Config.noneCode : Byte

/-- `RESET_BUF[i]` of one draw: the byte a buffer cell holds that no `RX.BYTE` has written since that
`RESET`: OPEN, a fresh draw at each reset (R15, R125, D13, U1). The first argument numbers the draw
(`State.draw`), the second is the index. Log 3. -/
opaque Config.resetBuf : (draw : Nat) → (index : Nat) → Byte

/-- The output `tx_data` while `tx_valid = 0`: unspecified (R24). Outputs are functions of the state (R29),
so it is an unknown function of the draw number and the TX registers (command selector, cursor, payload
and checksum bytes). Log 5. -/
opaque Config.txDataIdle :
  (draw : Nat) → (selector : BitVec 2) → (cursor : BitVec 3) → (payload checksum : Half) → Byte

/-- `rx.cursor` before the first `RESET`: unspecified (R126). Log 6. -/
opaque Config.powerOnRxCursor : BitVec 6
/-- `rx.length` before the first `RESET`: unspecified (R126). -/
opaque Config.powerOnRxLength : BitVec 6
/-- `rx.done` before the first `RESET`: unspecified (R126). -/
opaque Config.powerOnRxDone : Bool
/-- The command selector in `tx.cmd` before the first `RESET`: unspecified (R126). -/
opaque Config.powerOnTxSelector : BitVec 2
/-- `tx.payload_hi`, `tx.payload_lo` before the first `RESET`: unspecified (R126). -/
opaque Config.powerOnTxPayload : Half
/-- `tx.ck_hi`, `tx.ck_lo` before the first `RESET`: unspecified (R126). -/
opaque Config.powerOnTxChecksum : Half
/-- `tx.cursor` before the first `RESET`: unspecified (R126). -/
opaque Config.powerOnTxCursor : BitVec 3

end Sys2Proof
end

