-- ==== Sys2Proof/Syntax.lean ====
section
/-!
DEFINITION. Syntax: the closed command set, the decoded record, the sixteen rows of
spec/opcode_table.json as one inductive, and the forms in which an operation or a clock cycle of the
signal binding reaches the block (packets, signals, inputs).
-/

namespace Sys2Proof

/-- The closed command set `{None, ReadPassive, SetMode, SetSleep}` (R5, R18). -/
inductive Command where
  | none | readPassive | setMode | setSleep
deriving DecidableEq, Repr

/-- `SensorData`: twelve `u16` fields in wire order, with the names of R28. -/
structure SensorData where
  pm10 : Half
  pm25 : Half
  pm100 : Half
  pm10Atmos : Half
  pm25Atmos : Half
  pm100Atmos : Half
  pm03Count : Half
  pm05Count : Half
  pm10Count : Half
  pm25Count : Half
  pm50Count : Half
  pm100Count : Half
deriving DecidableEq, Repr

/-- The TX transport's answer to one attempt: `Accept`, `WouldBlock` or `Error(e)` (R9, R93). -/
inductive TxAnswer where
  | accept
  | wouldBlock
  | error (e : ErrCode)
deriving DecidableEq, Repr

/-- One constructor per row of spec/opcode_table.json. -/
inductive Instr where
  /-- `RESET` (R125) -/
  | reset
  /-- `RX.CLEAR` (R73) -/
  | rxClear
  /-- `RX.BYTE(b)` (R65) -/
  | rxByte (b : Byte)
  /-- `RX.NOP`: no RX operation in this cycle (R29, R59) -/
  | rxNop
  /-- `RX.VALIDATE` (R80) -/
  | rxValidate
  /-- `RX.DECODE` (R84) -/
  | rxDecode
  /-- `TX.CLEAR` (R99) -/
  | txClear
  /-- `TX.LOAD(c, p)` (R90) -/
  | txLoad (c : Command) (p : Half)
  /-- `TX.STEP(Error(e))` (R98) -/
  | txStepE (e : ErrCode)
  /-- `TX.STEP(Accept)` (R94) -/
  | txStepA
  /-- `TX.STEP(WouldBlock)` (R95) -/
  | txStepW
  /-- `CMD.SETMODE`: the outgoing frame `42 4D E1 <p> <checksum>` (R45 to R48) -/
  | cmdSetMode (p : Half)
  /-- `CMD.READPASSIVE`: the outgoing frame `42 4D E2 <p> <checksum>` (R45 to R48) -/
  | cmdReadPassive (p : Half)
  /-- `CMD.SETSLEEP`: the outgoing frame `42 4D E4 <p> <checksum>` (R45 to R48) -/
  | cmdSetSleep (p : Half)
  /-- `FRAME.RESP`: the incoming frame `42 4D 00 <len> <body>`; `body` is the bytes after the length field,
  the two checksum bytes included, whatever they are (R50, R53) -/
  | frameResp (len : Byte) (body : List Byte)
  /-- `FRAME.MEAS`: the incoming frame of declared length 28 with twelve fields, the two undescribed bytes at
  offsets 28 and 29, and the two checksum bytes as they arrive (R55, R86) -/
  | frameMeas (fields : SensorData) (r0 r1 : Byte) (checksum : Half)
deriving DecidableEq, Repr

/-- Where an operation's bits stand: the two control words of R59, the two query outputs (which have no
selector: R59), and the two wires of R27. -/
inductive Channel where
  /-- `CTRL_RX`, 11 bits in two bytes, least significant byte first (log 9) -/
  | ctrlRx
  /-- `CTRL_TX`, 23 bits in three bytes, least significant byte first (log 9) -/
  | ctrlTx
  /-- the query `RX.VALIDATE`: no bits (R59) -/
  | queryValidate
  /-- the query `RX.DECODE`: no bits (R59) -/
  | queryDecode
  /-- bytes of the RX wire, first byte on the wire first -/
  | rxWire
  /-- bytes of the TX wire, first byte on the wire first -/
  | txWire
deriving DecidableEq, Repr

/-- One operation as its bits: the channel, the bytes on it, and the value on the `tx_err_code` wires (R29),
which only `TX.STEP(Error(e))` looks at. -/
structure Packet where
  channel : Channel
  bytes : List Byte
  errCode : ErrCode
deriving DecidableEq, Repr

/-- The input signals of the signal binding, sampled at one rising edge of `clk` (R29). -/
structure Signals where
  rst : Bool
  rxClear : Bool
  rxValid : Bool
  rxData : Byte
  txClear : Bool
  txLoad : Bool
  txCmdIn : BitVec 2
  txPayloadIn : Half
  txReady : Bool
  txErr : Bool
  txErrCode : ErrCode
deriving DecidableEq, Repr

/-- What an agent of R9 does to the block next: one operation (the normative level, D1), or one clock edge of
the signal binding (D2), at which each sub-block performs at most one operation. -/
inductive Input where
  | op (p : Packet)
  | clock (g : Signals)
deriving DecidableEq, Repr

/-- Why bytes are no encoding of an operation. -/
inductive DecodeError where
  /-- the number of bytes is not that of the channel's format, or of the frame's declared length (R45, R53, R59) -/
  | wrongLength
  /-- a bit above the control word's width is set (R59) -/
  | padding
  /-- the byte at offset 0 is not `0x42` (R2, label A_MAGIC1 of R107) -/
  | badMagic1
  /-- the byte at offset 1 is not `0x4D` (R2, label A_MAGIC2) -/
  | badMagic2
  /-- the length high byte is not `0x00` (R51, label A_LENHI) -/
  | lenHighNotZero
  /-- the length low byte is above 32 (R52, label A_LENBIG) -/
  | lenAbove32
  /-- a command frame's code is none of `E1`, `E2`, `E4` (R46, R58) -/
  | unknownCommand
  /-- a command frame's last two bytes are not its checksum (R48) -/
  | badChecksum
deriving DecidableEq, Repr

end Sys2Proof
end

