-- ==== Sys2Proof/WellFormed.lean ====
section
/-!
DEFINITION. Which terms of `Instr` stand for a row of spec/opcode_table.json.
-/

namespace Sys2Proof

/-- The checks on an instruction's operands. Every operand of every row is unrestricted except those of
`FRAME.RESP`: its declared length is at most 32 (R52), its body has as many bytes as the length declares
(R53), and a frame of declared length 28 is written as the more special row `FRAME.MEAS` (R55; log 8). -/
def Instr.wellFormed : Instr → Bool
  | .reset => true
  | .rxClear => true
  | .rxByte _ => true
  | .rxNop => true
  | .rxValidate => true
  | .rxDecode => true
  | .txClear => true
  | .txLoad _ _ => true
  | .txStepE _ => true
  | .txStepA => true
  | .txStepW => true
  | .cmdSetMode _ => true
  | .cmdReadPassive _ => true
  | .cmdSetSleep _ => true
  | .frameResp len body => decide (len.toNat ≤ 32) && decide (body.length = len.toNat) && decide (len ≠ 28#8)
  | .frameMeas _ _ _ _ => true

end Sys2Proof
end

