-- ==== Sys2Proof/Decode.lean ====
section
/-!
DEFINITION. Byte-order helpers, checksums, command codes, the decoder (total on any packet, rejecting by
name) and the encoder, both written from spec/30_encoding.md.
-/

namespace Sys2Proof

/-! ## Bytes and halves (00_scope.md section 6) -/

/-- `MAGIC_1` (R2). -/
def magic1 : Byte := 0x42#8

/-- `MAGIC_2` (R2). -/
def magic2 : Byte := 0x4D#8

/-- `hi(v) = v[15:8]`. -/
def hi (v : Half) : Byte := BitVec.ofNat 8 (v.toNat / 256)

/-- `lo(v) = v[7:0]`. -/
def lo (v : Half) : Byte := BitVec.ofNat 8 v.toNat

/-- `be16(a, b) = a * 256 + b`: `a` is the byte that came first (R31). -/
def be16 (a b : Byte) : Half := BitVec.ofNat 16 (a.toNat * 256 + b.toNat)

/-- `zext_16(b)`. -/
def zext16 (b : Byte) : Half := b.setWidth 16

/-- The 16-bit wrap-around sum of a list of bytes (`SUM16`, 00_scope.md section 6); the empty sum is 0. -/
def sum16 : List Byte → Half
  | [] => 0#16
  | b :: bs => zext16 b + sum16 bs

/-- Bit `k` of a number, bit 0 the least significant (00_scope.md section 6). -/
def bitAt (v k : Nat) : Bool := decide (v / 2 ^ k % 2 = 1)

/-- Byte `k` of a number, counted from its least significant byte. -/
def byteOf (v k : Nat) : Byte := BitVec.ofNat 8 (v / 256 ^ k)

/-! ## Commands (R5, R18, R46) -/

/-- `CODE(c)`, the wire code of a command (R5, R46); that of `None` is the open parameter `NONE_CODE`. -/
def Command.code : Command → Byte
  | .none => Config.noneCode
  | .readPassive => 0xE2#8
  | .setMode => 0xE1#8
  | .setSleep => 0xE4#8

/-- The register encoding of a command, which is also the input `tx_cmd_in` (R18, R29). -/
def Command.selector : Command → BitVec 2
  | .none => 0#2
  | .readPassive => 1#2
  | .setMode => 2#2
  | .setSleep => 3#2

/-- The command a selector stands for (R18). -/
def Command.ofSelector (v : BitVec 2) : Command :=
  if v = 0#2 then .none else if v = 1#2 then .readPassive else if v = 2#2 then .setMode else .setSleep

/-- The command a wire code stands for; the set is closed (R46, R58). -/
def Command.ofCode (b : Byte) : Option Command :=
  if b = 0xE1#8 then some .setMode else if b = 0xE2#8 then some .readPassive
  else if b = 0xE4#8 then some .setSleep else Option.none

/-- The command checksum `0x42 + 0x4D + CODE(c) + p[15:8] + p[7:0]`, each byte added as a byte (R48, R91). -/
def commandChecksum (c : Command) (p : Half) : Half :=
  zext16 magic1 + zext16 magic2 + zext16 c.code + zext16 (hi p) + zext16 (lo p)

/-- A command frame from its seven fields, in wire order (R45, R92). -/
def commandFrameOf (c : Command) (payloadHi payloadLo ckHi ckLo : Byte) : List Byte :=
  [magic1, magic2, c.code, payloadHi, payloadLo, ckHi, ckLo]

/-- The command frame of `c` with payload `p` (R45, R47, R48). -/
def commandFrame (c : Command) (p : Half) : List Byte :=
  commandFrameOf c (hi p) (lo p) (hi (commandChecksum c p)) (lo (commandChecksum c p))

/-! ## Response frames (R50 to R55) -/

/-- A response frame: magic bytes, length high byte `0x00`, length low byte, then the declared bytes (R50). -/
def responseFrame (len : Byte) (body : List Byte) : List Byte :=
  magic1 :: magic2 :: 0x00#8 :: len :: body

/-- The record whose twelve big-endian fields start at the even positions of `f` (R28, R84). -/
def SensorData.ofBytes (f : Nat → Byte) : SensorData where
  pm10 := be16 (f 0) (f 1)
  pm25 := be16 (f 2) (f 3)
  pm100 := be16 (f 4) (f 5)
  pm10Atmos := be16 (f 6) (f 7)
  pm25Atmos := be16 (f 8) (f 9)
  pm100Atmos := be16 (f 10) (f 11)
  pm03Count := be16 (f 12) (f 13)
  pm05Count := be16 (f 14) (f 15)
  pm10Count := be16 (f 16) (f 17)
  pm25Count := be16 (f 18) (f 19)
  pm50Count := be16 (f 20) (f 21)
  pm100Count := be16 (f 22) (f 23)

/-- The 24 bytes of a record on the wire, each field high byte first (R31, R55). -/
def SensorData.bytes (d : SensorData) : List Byte :=
  [hi d.pm10, lo d.pm10, hi d.pm25, lo d.pm25, hi d.pm100, lo d.pm100,
   hi d.pm10Atmos, lo d.pm10Atmos, hi d.pm25Atmos, lo d.pm25Atmos, hi d.pm100Atmos, lo d.pm100Atmos] ++
  [hi d.pm03Count, lo d.pm03Count, hi d.pm05Count, lo d.pm05Count, hi d.pm10Count, lo d.pm10Count,
   hi d.pm25Count, lo d.pm25Count, hi d.pm50Count, lo d.pm50Count, hi d.pm100Count, lo d.pm100Count]

/-- The 28 bytes after the length field of a measurement frame (R55). -/
def measurementBody (d : SensorData) (r0 r1 : Byte) (checksum : Half) : List Byte :=
  d.bytes ++ [r0, r1, hi checksum, lo checksum]

/-- A measurement frame, 32 bytes (R55, R86). -/
def measurementFrame (d : SensorData) (r0 r1 : Byte) (checksum : Half) : List Byte :=
  responseFrame 28#8 (measurementBody d r0 r1 checksum)

/-- The measurement frame whose 28 bytes after the length field are `body` (R55). -/
def measurementOfBody (body : List Byte) : Instr :=
  .frameMeas (SensorData.ofBytes fun i => body.getD i 0#8) (body.getD 24 0#8) (body.getD 25 0#8)
    (be16 (body.getD 26 0#8) (body.getD 27 0#8))

/-! ## The decoder -/

/-- `CTRL_RX = {rst, rx_clear, rx_valid, rx_data[7:0]}`, highest priority first (R59). -/
def decodeCtrlRx (w : BitVec 11) : Instr :=
  if bitAt w.toNat 10 then .reset
  else if bitAt w.toNat 9 then .rxClear
  else if bitAt w.toNat 8 then .rxByte (BitVec.ofNat 8 w.toNat)
  else .rxNop

/-- `CTRL_TX = {rst, tx_clear, tx_load, tx_err, tx_ready, tx_cmd_in[1:0], tx_payload_in[15:0]}`, highest
priority first; `e` is the value of `tx_err_code` (R29, R59). -/
def decodeCtrlTx (w : BitVec 23) (e : ErrCode) : Instr :=
  if bitAt w.toNat 22 then .reset
  else if bitAt w.toNat 21 then .txClear
  else if bitAt w.toNat 20 then
    .txLoad (Command.ofSelector (BitVec.ofNat 2 (w.toNat / 2 ^ 16))) (BitVec.ofNat 16 w.toNat)
  else if bitAt w.toNat 19 then .txStepE e
  else if bitAt w.toNat 18 then .txStepA
  else .txStepW

/-- Format CMD7: seven bytes, a known code, the right checksum (R45 to R48, R58; log 15). -/
def decodeTxWire : List Byte → Except DecodeError Instr
  | [m1, m2, c, h, l, ch, cl] =>
    if m1 ≠ magic1 then .error .badMagic1
    else if m2 ≠ magic2 then .error .badMagic2
    else match Command.ofCode c with
      | some .setMode =>
        if be16 ch cl = commandChecksum .setMode (be16 h l) then .ok (.cmdSetMode (be16 h l))
        else .error .badChecksum
      | some .readPassive =>
        if be16 ch cl = commandChecksum .readPassive (be16 h l) then .ok (.cmdReadPassive (be16 h l))
        else .error .badChecksum
      | some .setSleep =>
        if be16 ch cl = commandChecksum .setSleep (be16 h l) then .ok (.cmdSetSleep (be16 h l))
        else .error .badChecksum
      | _ => .error .unknownCommand
  | _ => .error .wrongLength

/-- Format RESP: the length of the frame is told by the byte at offset 3 alone (R50 to R53); declared length 28
is a measurement frame (R55). The checksum bytes are taken as they arrive (R54 is `RX.VALIDATE`'s). -/
def decodeRxWire : List Byte → Except DecodeError Instr
  | m1 :: m2 :: lenHi :: len :: body =>
    if m1 ≠ magic1 then .error .badMagic1
    else if m2 ≠ magic2 then .error .badMagic2
    else if lenHi ≠ 0x00#8 then .error .lenHighNotZero
    else if 32 < len.toNat then .error .lenAbove32
    else if body.length ≠ len.toNat then .error .wrongLength
    else if len = 28#8 then .ok (measurementOfBody body)
    else .ok (.frameResp len body)
  | _ => .error .wrongLength

/-- The number in a control word's bytes, least significant byte first (log 9). -/
def controlNumber : List Byte → Nat
  | [] => 0
  | b :: bs => b.toNat + 256 * controlNumber bs

/-- The decoder: what operation a packet stands for, or why none. -/
def decode (p : Packet) : Except DecodeError Instr :=
  match p.channel with
  | .ctrlRx =>
    if p.bytes.length ≠ 2 then .error .wrongLength
    else if 2 ^ 11 ≤ controlNumber p.bytes then .error .padding
    else .ok (decodeCtrlRx (BitVec.ofNat 11 (controlNumber p.bytes)))
  | .ctrlTx =>
    if p.bytes.length ≠ 3 then .error .wrongLength
    else if 2 ^ 23 ≤ controlNumber p.bytes then .error .padding
    else .ok (decodeCtrlTx (BitVec.ofNat 23 (controlNumber p.bytes)) p.errCode)
  | .queryValidate => if p.bytes = [] then .ok .rxValidate else .error .wrongLength
  | .queryDecode => if p.bytes = [] then .ok .rxDecode else .error .wrongLength
  | .rxWire => decodeRxWire p.bytes
  | .txWire => decodeTxWire p.bytes

/-! ## The encoder -/

/-- A `CTRL_RX` word in two bytes (log 9). -/
def ctrlRxPacket (w : BitVec 11) : Packet := ⟨.ctrlRx, [byteOf w.toNat 0, byteOf w.toNat 1], 0⟩

/-- A `CTRL_TX` word in three bytes, with the value of `tx_err_code` beside it (log 9). -/
def ctrlTxPacket (w : BitVec 23) (e : ErrCode) : Packet :=
  ⟨.ctrlTx, [byteOf w.toNat 0, byteOf w.toNat 1, byteOf w.toNat 2], e⟩

/-- The bits of an instruction (R59, R45, R50); a bit that does not matter is 0. -/
def encode : Instr → Packet
  | .reset => ctrlRxPacket 0b10000000000#11
  | .rxClear => ctrlRxPacket 0b01000000000#11
  | .rxByte b => ctrlRxPacket (BitVec.ofNat 11 (2 ^ 8 + b.toNat))
  | .rxNop => ctrlRxPacket 0b00000000000#11
  | .rxValidate => ⟨.queryValidate, [], 0⟩
  | .rxDecode => ⟨.queryDecode, [], 0⟩
  | .txClear => ctrlTxPacket 0b01000000000000000000000#23 0
  | .txLoad c p => ctrlTxPacket (BitVec.ofNat 23 (2 ^ 20 + 2 ^ 16 * c.selector.toNat + p.toNat)) 0
  | .txStepE e => ctrlTxPacket 0b00010000000000000000000#23 e
  | .txStepA => ctrlTxPacket 0b00001000000000000000000#23 0
  | .txStepW => ctrlTxPacket 0b00000000000000000000000#23 0
  | .cmdSetMode p => ⟨.txWire, commandFrame .setMode p, 0⟩
  | .cmdReadPassive p => ⟨.txWire, commandFrame .readPassive p, 0⟩
  | .cmdSetSleep p => ⟨.txWire, commandFrame .setSleep p, 0⟩
  | .frameResp len body => ⟨.rxWire, responseFrame len body, 0⟩
  | .frameMeas d r0 r1 ck => ⟨.rxWire, measurementFrame d r0 r1 ck, 0⟩

/-! ## The control words of the signal binding (R59) -/

/-- `CTRL_RX` of one cycle's signals: `rst` is bit 10, `rx_clear` bit 9, `rx_valid` bit 8. -/
def Signals.ctrlRx (g : Signals) : BitVec 11 :=
  BitVec.ofNat 11 (2 ^ 10 * g.rst.toNat + 2 ^ 9 * g.rxClear.toNat + 2 ^ 8 * g.rxValid.toNat + g.rxData.toNat)

/-- `CTRL_TX` of one cycle's signals: `rst` is bit 22, `tx_clear` bit 21, `tx_load` bit 20, `tx_err` bit 19, `tx_ready` bit 18,
`tx_cmd_in` bits 17:16. -/
def Signals.ctrlTx (g : Signals) : BitVec 23 :=
  BitVec.ofNat 23 (2 ^ 22 * g.rst.toNat + 2 ^ 21 * g.txClear.toNat + 2 ^ 20 * g.txLoad.toNat + 2 ^ 19 * g.txErr.toNat +
    2 ^ 18 * g.txReady.toNat + 2 ^ 16 * g.txCmdIn.toNat + g.txPayloadIn.toNat)

/-! ## The opcode table's numbers -/

/-- The `n` low bytes of a number, least significant first. -/
def bytesLow (n w : Nat) : List Byte := (List.range n).map (byteOf w)

/-- The `n` low bytes of a number, most significant first (the order of R45's 56-bit frame). -/
def bytesHigh (n w : Nat) : List Byte := (List.range n).reverse.map (byteOf w)

/-- A response frame as the table numbers it: the four header bytes are its low 32 bits, magic byte 1 most
significant, and the declared bytes count on from bit 32 (log 10). -/
def frameOfNumber (w : Nat) : List Byte :=
  bytesHigh 4 w ++ (List.range (byteOf w 0).toNat).map fun j => byteOf w (4 + j)

/-- The packet of a row whose bits, as spec/opcode_table.json numbers them, are `w` (log 10): two bytes are
`CTRL_RX`, three bytes `CTRL_TX`, but for the one number `0x424D00`, which the table gives to `FRAME.RESP`;
seven bytes are CMD7; more than three otherwise are RESP. A row of no bits (a query) has no word. -/
def tablePacket (nbits w : Nat) : Packet :=
  if nbits = 0 then ⟨.txWire, [], 0⟩
  else if nbits ≤ 16 then ⟨.ctrlRx, bytesLow 2 w, 0⟩
  else if nbits ≤ 24 then
    if w = 0x424D00 then ⟨.rxWire, [magic1, magic2, 0x00#8, 0x00#8], 0⟩
    else ⟨.ctrlTx, bytesLow 3 w, 0⟩
  else if nbits = 56 then ⟨.txWire, bytesHigh 7 w, 0⟩
  else ⟨.rxWire, frameOfNumber w, 0⟩

/-- The instruction the decoder reads from a row's bits, numbered as spec/opcode_table.json numbers them. -/
def decodeTableWord (nbits w : Nat) : Option Instr :=
  match decode (tablePacket nbits w) with
  | .ok i => some i
  | .error _ => none

end Sys2Proof
end

