-- ==== Sys2Proof/Machine/State.lean ====
section
/-!
DEFINITION. The state of the block (spec/10_state.md: R10, R17) with what stands around it (the TX wire of
R27, the inputs the agents of R9 have pending, the results of the operations), the reasons a step can stop,
and the states after power-on and after `RESET`.
-/

namespace Sys2Proof.Machine

/-- The RX buffer: (index, byte) pairs for the cells written since `RESET`, indices strictly rising and below
32. A cell that is not listed holds `RESET_BUF` (R15). -/
abbrev Memory := List Host.Cell

/-- The RX sub-block, exactly the registers of R10. -/
structure RxState where
  /-- `rx.cursor`, 6 bits (R11) -/
  cursor : BitVec 6
  /-- `rx.length`, 6 bits (R12) -/
  length : BitVec 6
  /-- `rx.done`, 1 bit (R16) -/
  done : Bool
  /-- `rx.buf[0..31]` (R13) -/
  buf : Memory
deriving DecidableEq, Repr

/-- The TX sub-block, exactly the registers of R17. -/
structure TxState where
  /-- `tx.cmd`, the command in flight (R18) -/
  cmd : Command
  /-- `tx.payload_hi` (R19) -/
  payloadHi : Byte
  /-- `tx.payload_lo` (R19) -/
  payloadLo : Byte
  /-- `tx.ck_hi` (R19) -/
  ckHi : Byte
  /-- `tx.ck_lo` (R19) -/
  ckLo : Byte
  /-- `tx.cursor`, 3 bits (R20) -/
  cursor : BitVec 3
deriving DecidableEq, Repr

/-- The result of `TX.LOAD` (R90). -/
inductive LoadResult where
  | accepted | refused
deriving DecidableEq, Repr

/-- The result of `TX.STEP` (R93). -/
inductive StepResult where
  | complete | pending
  | failed (e : ErrCode)
  | idle
deriving DecidableEq, Repr

/-- What an operation returns (R7). -/
inductive Result where
  /-- of `RX.BYTE`: whether a complete frame is reported -/
  | byte (complete : Bool)
  /-- of `RX.VALIDATE` -/
  | valid (ok : Bool)
  /-- of `RX.DECODE` -/
  | record (d : SensorData)
  /-- of `TX.LOAD` -/
  | load (r : LoadResult)
  /-- of `TX.STEP` -/
  | step (r : StepResult)
deriving DecidableEq, Repr

/-- The machine: the two sub-blocks, and around them what is NOT state of the block (R23) but what a run needs:
the TX wire, the results, the pending inputs, and the counter of `RESET_BUF` draws (log 1, log 3). -/
structure State where
  /-- the RX sub-block -/
  rx : RxState
  /-- the TX sub-block -/
  tx : TxState
  /-- the TX wire stream: every byte emitted so far, first byte first (R27) -/
  txWire : List Byte
  /-- the results returned since the last input was taken, in order (R7; the model's own field, log 1) -/
  results : List Result
  /-- what the agents do next, in order (R9, R39; the model's own field, log 1) -/
  inputs : List Input
  /-- the number of the current `RESET_BUF` draw (D13; the model's own field, log 3) -/
  draw : Nat
deriving DecidableEq, Repr

/-- Faults. There is none: no operation of the block raises, traps, faults or halts (R105). -/
inductive Fault where
deriving DecidableEq, Repr

/-- Refusals. -/
inductive Refusal where
  /-- An instruction without a meaning, by its mnemonic. Raised by `exec` only; no arm of it does now. Safe. -/
  | notModelled (mnemonic : String)
  /-- The next input is a packet that is no encoding of an operation: padding bits set in a control word, a
  wrong number of bytes, or bytes given as an outgoing command frame that no command frame has (R58: the
  block cannot frame them). Raised by the step, never for bytes of the RX wire. Safe. -/
  | notAnEncoding (why : DecodeError)
deriving DecidableEq, Repr

/-- The RX registers after `RESET` (R26, R125); no cell is listed, so every cell holds `RESET_BUF`. -/
def RxState.empty : RxState where
  cursor := 0#6
  length := 0#6
  done := false
  buf := []

/-- The TX registers after `RESET` (R26, R125). -/
def TxState.empty : TxState where
  cmd := .none
  payloadHi := 0#8
  payloadLo := 0#8
  ckHi := 0#8
  ckLo := 0#8
  cursor := 0#3

/-- The machine right after the first `RESET` (R26, R125): the TX wire is empty, nothing is pending, and the
buffer holds draw 1 (draw 0 is what it held before, log 3). -/
def State.reset : State where
  rx := RxState.empty
  tx := TxState.empty
  txWire := []
  results := []
  inputs := []
  draw := 1

/-- The machine before the first `RESET`: every register is unspecified (R126, log 6). R126 leaves open what an operation other
than `RESET` does here; `exec` runs it by the ordinary rules on these registers (DESIGN CHOICE, unsafe: log 19). -/
def State.powerOn : State where
  rx := { cursor := Config.powerOnRxCursor, length := Config.powerOnRxLength,
          done := Config.powerOnRxDone, buf := [] }
  tx := { cmd := Command.ofSelector Config.powerOnTxSelector,
          payloadHi := hi Config.powerOnTxPayload, payloadLo := lo Config.powerOnTxPayload,
          ckHi := hi Config.powerOnTxChecksum, ckLo := lo Config.powerOnTxChecksum,
          cursor := Config.powerOnTxCursor }
  txWire := []
  results := []
  inputs := []
  draw := 0

end Sys2Proof.Machine
end

