-- ==== Sys2Proof/Machine/Ops.lean ====
section
/-!
DEFINITION. The named operations every meaning shares: the RX buffer's one-byte accesses (spec/20_memory.md),
resynchronisation (which takes the place of trap entry: R113), the TX wire, results, and running two
operations one after the other.
-/

namespace Sys2Proof.Machine

/-- What `exec` and `step` answer. -/
abbrev Answer := Host.Outcome State Fault Refusal

/-! ## The RX buffer -/

/-- `BUF_SIZE`, the number of buffer cells (R3, R30). -/
def bufSize : Nat := 32

/-- The byte a cell was written with since `RESET`, or none. -/
def Memory.read : Memory → Nat → Option Byte
  | [], _ => none
  | (a, b) :: m, i => if i = a then some b else Memory.read m i

/-- List a byte at an index, in order. -/
def Memory.insert : Memory → Nat → Byte → Memory
  | [], i, b => [(i, b)]
  | (a, c) :: m, i, b =>
    if i < a then (i, b) :: (a, c) :: m
    else if i = a then (i, b) :: m
    else (a, c) :: Memory.insert m i b

/-- `MemWrite(i, 1, b)`: a write to an index of 32 or more does not happen (R34). -/
def Memory.write (m : Memory) (i : Nat) (b : Byte) : Memory :=
  if i < bufSize then m.insert i b else m

/-- Every index in a listing is above `low`, and they rise strictly. -/
def Memory.risesAbove : Nat → Memory → Bool
  | _, [] => true
  | low, (a, _) :: m => decide (low < a) && Memory.risesAbove a m

/-- Every index in a listing is a buffer index. -/
def Memory.inBuffer : Memory → Bool
  | [] => true
  | (a, _) :: m => decide (a < bufSize) && Memory.inBuffer m

/-- The canonical form: indices strictly rising, all of them buffer indices. An unlisted cell reads as no known
byte, so no entry can equal what it reads as (log 3). -/
def Memory.wf : Memory → Bool
  | [] => true
  | (a, b) :: m => Memory.risesAbove a m && Memory.inBuffer ((a, b) :: m)

/-- What a cell reads as that no `RX.BYTE` has written since `RESET`: `RESET_BUF[i]` of the current draw, any
byte (R15, U1). This is the one place that says what an unlisted index holds. -/
def unwrittenByte (draw i : Nat) : Byte := Config.resetBuf draw i

/-- `MemRead(i, 1)`, that is `rx.buf[i]` (R13). -/
def State.cell (s : State) (i : Nat) : Byte := (s.rx.buf.read i).getD (unwrittenByte s.draw i)

/-- `rx.buf[0 .. n-1]`. -/
def State.cells (s : State) (n : Nat) : List Byte := (List.range n).map s.cell

/-! ## Resynchronisation -/

/-- Resynchronise: `rx.cursor <- 0` and nothing else; the byte is discarded (R113). `rx.done` is written by
`RX.BYTE` itself (R71). There is no return from it (R114). -/
def RxState.resync (r : RxState) : RxState := { r with cursor := 0#6 }

/-! ## Results, the TX wire, sequencing -/

/-- `return r`: the operation's result goes to the agent that issued it. -/
def State.answer (s : State) (r : Result) : State := { s with results := s.results ++ [r] }

/-- `emit`: append the bytes the transport has accepted to the TX wire (00_scope.md section 6). -/
def State.emit (s : State) (out : List Byte) : State := { s with txWire := s.txWire ++ out }

/-- Run `f` on the next state, if there is one. -/
def andThen (a : Answer) (f : State → Answer) : Answer :=
  match a with
  | .next s => f s
  | .fault r => .fault r
  | .refused r => .refused r

end Sys2Proof.Machine
end

