-- ==== Sys2Proof/Machine/Reset.lean ====
section
/-!
DEFINITION. `RESET` (spec/70_reset_and_hazards.md section 1).
-/

namespace Sys2Proof.Machine

/-- `RESET` on the state (R125): both sub-blocks to their empty state, the buffer to a fresh draw of `RESET_BUF`. What
has gone out on the TX wire stays there (R137), and nothing is emitted (log 13). -/
def State.resetOnce (s : State) : State :=
  { s with rx := RxState.empty, tx := TxState.empty, draw := s.draw + 1 }

/-- `RESET` (R125): returns nothing. -/
def execReset (s : State) : Answer := .next s.resetOnce

end Sys2Proof.Machine
end

