-- ==== Sys2Proof/Machine/Operands.lean ====
section
/-!
DEFINITION. What the operations read as operands: the parameters of 00_scope.md section 4, the declared length, the
checksum fields of the buffer, and the bytes of the command in flight.
-/

namespace Sys2Proof.Machine

/-- `MAX_LEN`, the largest declared length the parser accepts (R3, R52). -/
def maxLen : Nat := 32

/-- `FIT_LEN`, the largest declared length whose frame fits the buffer (R3, R30). -/
def fitLen : Nat := 28

/-- `L`, the declared length held in `rx.length` (R12). -/
def RxState.declared (r : RxState) : Nat := r.length.toNat

/-- The offset of a frame's last byte, `L + 3` (R53, R70). -/
def RxState.lastOffset (r : RxState) : Nat := r.declared + 3

/-- The sum the validator computes: `SUM16(0, L + 1)` (R80). -/
def State.rxSum (s : State) : Half := sum16 (s.cells (s.rx.declared + 2))

/-- The stored checksum: `be16(rx.buf[L + 2], rx.buf[L + 3])` (R80). -/
def State.rxChecksum (s : State) : Half :=
  be16 (s.cell (s.rx.declared + 2)) (s.cell (s.rx.declared + 3))

/-- The seven bytes of the command in flight (R92). -/
def TxState.frame (t : TxState) : List Byte :=
  commandFrameOf t.cmd t.payloadHi t.payloadLo t.ckHi t.ckLo

/-- `TXBYTE(k)`, defined for `0 <= k <= 6` (R92). -/
def TxState.byteAt (t : TxState) (k : Nat) : Option Byte := t.frame[k]?

end Sys2Proof.Machine
end

