-- ==== Sys2Proof/Machine/RxParser.lean ====
section
/-!
DEFINITION. The RX parser (spec/40_rx_parser.md, with the spec's decisions D5 to D10: log 14): `RX.BYTE` by offset class,
`RX.CLEAR`, and the cycle without an RX operation. Each offset function gives the registers but `rx.done` and the result; `RX.BYTE` writes `rx.done`.
-/

namespace Sys2Proof.Machine

/-- Store an accepted byte at its offset and move the cursor to `next` (R13, R35); a value of 64 wraps to 0, on states no
run reaches (log 12). -/
def RxState.accept (r : RxState) (b : Byte) (next : Nat) : RxState :=
  { r with buf := r.buf.write r.cursor.toNat b, cursor := BitVec.ofNat 6 next }

/-- `OFFSET0(b)` (R66): magic byte 1, or stay at 0. -/
def RxState.offset0 (r : RxState) (b : Byte) : RxState × Bool :=
  if b = magic1 then (r.accept b 1, false) else (r, false)

/-- `OFFSET1(b)` (R67): magic byte 2, or resynchronise; the byte is not looked at again. -/
def RxState.offset1 (r : RxState) (b : Byte) : RxState × Bool :=
  if b = magic2 then (r.accept b 2, false) else (r.resync, false)

/-- `OFFSET2(b)` (R68): length high byte 0, or resynchronise. -/
def RxState.offset2 (r : RxState) (b : Byte) : RxState × Bool :=
  if b = 0x00#8 then (r.accept b 3, false) else (r.resync, false)

/-- `OFFSET3(b)` (R69): the declared length; above 32 resynchronise with `rx.length` and `rx.buf[3]` unchanged; 0
completes the frame here. -/
def RxState.offset3 (r : RxState) (b : Byte) : RxState × Bool :=
  if maxLen < b.toNat then (r.resync, false)
  else if b.toNat = 0 then ({ r.accept b 0 with length := b.setWidth 6 }, true)
  else ({ r.accept b 4 with length := b.setWidth 6 }, false)

/-- `OFFSETN(k, b)` (R70): buffered verbatim where there is a cell; complete once the offset reaches `L + 3`. -/
def RxState.offsetN (r : RxState) (b : Byte) : RxState × Bool :=
  if r.lastOffset ≤ r.cursor.toNat then (r.accept b 0, true)
  else (r.accept b (r.cursor.toNat + 1), false)

/-- The dispatch of `RX.BYTE` on the cursor (R65). -/
def RxState.atOffset (r : RxState) (b : Byte) : RxState × Bool :=
  match r.cursor.toNat with
  | 0 => r.offset0 b
  | 1 => r.offset1 b
  | 2 => r.offset2 b
  | 3 => r.offset3 b
  | _ => r.offsetN b

/-- `RX.BYTE(b)` on the RX registers (R65): `rx.done` is its own result (R71). -/
def RxState.byte (r : RxState) (b : Byte) : RxState × Bool :=
  ({ (r.atOffset b).1 with done := (r.atOffset b).2 }, (r.atOffset b).2)

/-- `RX.BYTE(b)`: one byte of the RX wire (R65 to R72). -/
def State.rxByte (s : State) (b : Byte) : State :=
  { s with rx := (s.rx.byte b).1 }.answer (.byte (s.rx.byte b).2)

/-- `RX.BYTE` (R65): never refused (R72). -/
def execRxByte (b : Byte) (s : State) : Answer := .next (s.rxByte b)

/-- `RX.CLEAR` on the state (R73): `rx.cursor` and `rx.done` to 0; `rx.length` and the buffer are not changed. -/
def State.rxCleared (s : State) : State := { s with rx := { s.rx with cursor := 0#6, done := false } }

/-- `RX.CLEAR` (R73): restart the parser. -/
def execRxClear (s : State) : Answer := .next s.rxCleared

/-- `RX.NOP`: no RX operation in this cycle, state unchanged (R29, R59). -/
def execRxNop (s : State) : Answer := .next s

end Sys2Proof.Machine
end

