-- ==== Sys2Proof/Machine/RxQuery.lean ====
section
/-!
DEFINITION. `RX.VALIDATE` and `RX.DECODE` (spec/41_rx_validate_decode.md): pure queries.
-/

namespace Sys2Proof.Machine

/-- `RX.VALIDATE` (R80): false for a declared length above 28 (R81), else whether the stored checksum is the
sum of the `L + 2` bytes before it. -/
def State.validate (s : State) : Bool :=
  if fitLen < s.rx.declared then false else decide (s.rxSum = s.rxChecksum)

/-- `RX.DECODE` (R84): the twelve big-endian fields at buffer indices 4 to 27. -/
def State.decodeRecord (s : State) : SensorData := SensorData.ofBytes fun i => s.cell (4 + i)

/-- Ask `RX.VALIDATE` and return its value. -/
def State.askValidate (s : State) : State := s.answer (.valid s.validate)

/-- Ask `RX.DECODE` and return its value. -/
def State.askDecode (s : State) : State := s.answer (.record s.decodeRecord)

/-- `RX.VALIDATE` (R80): state unchanged, its value is returned. -/
def execRxValidate (s : State) : Answer := .next s.askValidate

/-- `RX.DECODE` (R84): state unchanged, its value is returned. -/
def execRxDecode (s : State) : Answer := .next s.askDecode

end Sys2Proof.Machine
end

