-- ==== Sys2Proof/Machine/TxSerializer.lean ====
section
/-!
DEFINITION. The TX command serializer (spec/42_tx_serializer.md, with the spec's decisions D15 to D18: log 14): `TX.LOAD`, `TX.STEP`, `TX.CLEAR`.
-/

namespace Sys2Proof.Machine

/-- The registers an accepted `TX.LOAD(c, p)` leaves (R90, R91). -/
def TxState.loaded (c : Command) (p : Half) : TxState where
  cmd := c
  payloadHi := hi p
  payloadLo := lo p
  ckHi := hi (commandChecksum c p)
  ckLo := lo (commandChecksum c p)
  cursor := 0#3

/-- Whether `TX.LOAD(c, p)` is accepted: no command is in flight and `c` is not `None` (R90). -/
def TxState.accepts (t : TxState) (c : Command) : Bool := decide (t.cmd = .none) && decide (c ≠ .none)

/-- `TX.LOAD(c, p)` (R90): refused loads change nothing. -/
def State.txLoad (s : State) (c : Command) (p : Half) : State :=
  if s.tx.accepts c then { s with tx := TxState.loaded c p }.answer (.load .accepted)
  else s.answer (.load .refused)

/-- What one attempt does: the registers after it, its result, and the bytes put on the TX wire. -/
structure StepEffect where
  tx : TxState
  result : StepResult
  emitted : List Byte
deriving DecidableEq, Repr

/-- `TX.STEP(t)` on the TX registers (R93): `Idle` without a command (R96); `Complete` at cursor 7, where `TXBYTE`
gives no byte (R97); else the transport's answer decides (R94, R95, R98). -/
def TxState.attempt (t : TxState) (a : TxAnswer) : StepEffect :=
  if t.cmd = .none then ⟨t, .idle, []⟩
  else match t.byteAt t.cursor.toNat with
    | none => ⟨t, .complete, []⟩
    | some b =>
      match a with
      | .accept =>
        ⟨{ t with cursor := BitVec.ofNat 3 (t.cursor.toNat + 1) },
          if t.cursor.toNat = 6 then .complete else .pending, [b]⟩
      | .wouldBlock => ⟨t, .pending, []⟩
      | .error e => ⟨t, .failed e, []⟩

/-- `TX.STEP(t)`: one attempt to send the next byte (R93). -/
def State.txStep (s : State) (a : TxAnswer) : State :=
  ({ s with tx := (s.tx.attempt a).tx }.emit (s.tx.attempt a).emitted).answer (.step (s.tx.attempt a).result)

/-- `TX.LOAD` (R90). -/
def execTxLoad (c : Command) (p : Half) (s : State) : Answer := .next (s.txLoad c p)

/-- `TX.STEP(Error(e))` (R98; R96, R97). -/
def execTxStepE (e : ErrCode) (s : State) : Answer := .next (s.txStep (.error e))

/-- `TX.STEP(Accept)` (R94; R96, R97). -/
def execTxStepA (s : State) : Answer := .next (s.txStep .accept)

/-- `TX.STEP(WouldBlock)` (R95; R96, R97). -/
def execTxStepW (s : State) : Answer := .next (s.txStep .wouldBlock)

/-- `TX.CLEAR`: `tx.cmd <- None` and nothing else (R99). -/
def State.txCleared (s : State) : State := { s with tx := { s.tx with cmd := .none } }

/-- `TX.CLEAR` (R99): legal at any cursor value. -/
def execTxClear (s : State) : Answer := .next s.txCleared

end Sys2Proof.Machine
end

