-- ==== Sys2Proof/Machine/WireFrames.lean ====
section
/-!
DEFINITION. The wire formats as operations (spec/30_encoding.md; log 7): a command frame is the block sending it, a
response frame is the RX transport delivering it byte by byte.
-/

namespace Sys2Proof.Machine

/-- `n` attempts the transport accepts, one after another. -/
def State.acceptedSteps : Nat → State → State
  | 0, s => s
  | n + 1, s => State.acceptedSteps n (s.txStep .accept)

/-- Send a command frame: `TX.LOAD(c, p)`, and if it is accepted seven `TX.STEP(Accept)` (R90, R92, R100). A refused
load sends nothing: stepping on would step the old command (R136). -/
def State.sendFrame (s : State) (c : Command) (p : Half) : State :=
  if s.tx.accepts c then State.acceptedSteps 7 (s.txLoad c p) else s.txLoad c p

/-- Deliver bytes of the RX wire in order, one `RX.BYTE` each; after each byte that completes a frame ask `query`
(R39, R130: the held window). -/
def State.deliver (query : State → State) : List Byte → State → State
  | [], s => s
  | b :: bs, s =>
    if (s.rxByte b).rx.done then State.deliver query bs (query (s.rxByte b))
    else State.deliver query bs (s.rxByte b)

/-- The active read of R121 on a completed frame: `RX.VALIDATE`, and `RX.DECODE` if that is true. -/
def State.askMeasurement (s : State) : State :=
  if s.validate then s.askValidate.askDecode else s.askValidate

/-- `CMD.SETMODE`: the frame `42 4D E1 <p> <checksum>` goes out (R45 to R48, R100). -/
def execCmdSetMode (p : Half) (s : State) : Answer := .next (s.sendFrame .setMode p)

/-- `CMD.READPASSIVE`: the frame `42 4D E2 <p> <checksum>` goes out. -/
def execCmdReadPassive (p : Half) (s : State) : Answer := .next (s.sendFrame .readPassive p)

/-- `CMD.SETSLEEP`: the frame `42 4D E4 <p> <checksum>` goes out. -/
def execCmdSetSleep (p : Half) (s : State) : Answer := .next (s.sendFrame .setSleep p)

/-- `FRAME.RESP`: the frame's bytes are parsed (R65 to R70) and, where they complete a frame, validated (R80). -/
def execFrameResp (len : Byte) (body : List Byte) (s : State) : Answer :=
  .next (s.deliver State.askValidate (responseFrame len body))

/-- `FRAME.MEAS`: the frame's bytes are parsed and, where they complete a frame, validated and decoded (R84, R86). -/
def execFrameMeas (d : SensorData) (r0 r1 : Byte) (checksum : Half) (s : State) : Answer :=
  .next (s.deliver State.askMeasurement (measurementFrame d r0 r1 checksum))

end Sys2Proof.Machine
end

