-- ==== Sys2Proof/Machine/Dispatch.lean ====
section
/-!
DEFINITION. Which meaning each row of spec/opcode_table.json has.
-/

namespace Sys2Proof.Machine

def exec (i : Instr) (s : State) : Host.Outcome State Fault Refusal :=
  match i with
  | .reset => Sys2Proof.Machine.execReset s
  | .rxClear => Sys2Proof.Machine.execRxClear s
  | .rxByte b => Sys2Proof.Machine.execRxByte b s
  | .rxNop => Sys2Proof.Machine.execRxNop s
  | .rxValidate => Sys2Proof.Machine.execRxValidate s
  | .rxDecode => Sys2Proof.Machine.execRxDecode s
  | .txClear => Sys2Proof.Machine.execTxClear s
  | .txLoad c p => Sys2Proof.Machine.execTxLoad c p s
  | .txStepE e => Sys2Proof.Machine.execTxStepE e s
  | .txStepA => Sys2Proof.Machine.execTxStepA s
  | .txStepW => Sys2Proof.Machine.execTxStepW s
  | .cmdSetMode p => Sys2Proof.Machine.execCmdSetMode p s
  | .cmdReadPassive p => Sys2Proof.Machine.execCmdReadPassive p s
  | .cmdSetSleep p => Sys2Proof.Machine.execCmdSetSleep p s
  | .frameResp len body => Sys2Proof.Machine.execFrameResp len body s
  | .frameMeas d r0 r1 checksum => Sys2Proof.Machine.execFrameMeas d r0 r1 checksum s

end Sys2Proof.Machine
end

