-- ==== Sys2Proof/Machine/Flags.lean ====
section
/-!
DEFINITION. The status outputs (R24) and the two outputs that also look at this cycle's inputs (R29). The only
stored flag is `rx.done`.
-/

namespace Sys2Proof.Machine

/-- `rx_done` (R24). -/
def State.rxDone (s : State) : Bool := s.rx.done

/-- `rx_ok`: a complete frame is held and its checksum matches (R24). -/
def State.rxOk (s : State) : Bool := s.rx.done && s.validate

/-- `rx_fields`: the value of `RX.DECODE`, present in every cycle (R24, R142). -/
def State.rxFields (s : State) : SensorData := s.decodeRecord

/-- `tx_busy`: a command is in flight (R24). -/
def State.txBusy (s : State) : Bool := decide (s.tx.cmd ≠ .none)

/-- `tx_valid`: a byte is offered on `tx_data` (R24). -/
def State.txValid (s : State) : Bool := decide (s.tx.cmd ≠ .none) && decide (s.tx.cursor.toNat < 7)

/-- `tx_done`: the frame is fully sent (R24). -/
def State.txDone (s : State) : Bool := decide (s.tx.cmd ≠ .none) && decide (s.tx.cursor.toNat = 7)

/-- `tx_data` while nothing is offered: unspecified (R24, log 5). -/
def State.txDataIdle (s : State) : Byte :=
  Config.txDataIdle s.draw s.tx.cmd.selector s.tx.cursor (be16 s.tx.payloadHi s.tx.payloadLo)
    (be16 s.tx.ckHi s.tx.ckLo)

/-- `tx_data`: `TXBYTE(tx.cursor)` when `tx_valid`, else unspecified (R24). -/
def State.txData (s : State) : Byte :=
  if s.txValid then (s.tx.byteAt s.tx.cursor.toNat).getD s.txDataIdle else s.txDataIdle

/-- `tx_fail = tx_valid and tx_err` (R29), on the state before the edge (log 16). -/
def State.txFail (s : State) (g : Signals) : Bool := s.txValid && g.txErr

/-- `tx_fail_code`: `tx_err_code`, passed through unchanged (R29). -/
def txFailCode (g : Signals) : ErrCode := g.txErrCode

/-- The outputs that are functions of the state (R24, R29). -/
structure Outputs where
  rxDone : Bool
  rxOk : Bool
  rxFields : SensorData
  txValid : Bool
  txData : Byte
  txBusy : Bool
  txDone : Bool
deriving DecidableEq, Repr

/-- The outputs in a state (R24). -/
def State.outputs (s : State) : Outputs where
  rxDone := s.rxDone
  rxOk := s.rxOk
  rxFields := s.rxFields
  txValid := s.txValid
  txData := s.txData
  txBusy := s.txBusy
  txDone := s.txDone

end Sys2Proof.Machine
end

