-- ==== Sys2Proof/Machine/Clock.lean ====
section
/-!
DEFINITION. One clock cycle of the signal binding (R29, R59; decision D2).
-/

namespace Sys2Proof.Machine

/-- The RX sub-block's operation of a cycle: what `CTRL_RX` selects (R59). -/
def Signals.rxOperation (g : Signals) : Instr := decodeCtrlRx g.ctrlRx

/-- The TX sub-block's operation of a cycle: what `CTRL_TX` selects, with `tx_err_code` (R59). -/
def Signals.txOperation (g : Signals) : Instr := decodeCtrlTx g.ctrlTx g.txErrCode

/-- Whether the TX sub-block performs an operation in this cycle: a clear or a load always, the implicit
`TX.STEP` only while `tx_valid = 1` (R29, R59). -/
def txActs (g : Signals) (s : State) : Bool := g.txClear || g.txLoad || s.txValid

/-- One rising edge: each sub-block performs at most one operation, by priority; a lower-priority request is
dropped (R29, R112). `rst` is one input of both sub-blocks, so it is one `RESET`. The two sub-blocks share no
state, so which goes first does not matter (R39); the RX result comes first in `results` (log 11). -/
def clockEdge (g : Signals) (s : State) : Answer :=
  if g.rst then exec .reset s
  else andThen (exec (Signals.rxOperation g) s) fun s1 =>
    if txActs g s1 then exec (Signals.txOperation g) s1 else .next s1

end Sys2Proof.Machine
end

