-- ==== Sys2Proof/Machine/Fetch.lean ====
section
/-!
DEFINITION. Taking the next input and running it. The block fetches nothing itself (R43): an agent of R9 acts on it.
-/

namespace Sys2Proof.Machine

/-- The state once the next input has been taken: the inputs after it remain, and the results of the input before
it are gone (log 1). -/
def State.taken (s : State) (rest : List Input) : State := { s with inputs := rest, results := [] }

/-- A packet that is no encoding. On the RX wire every byte is taken all the same, one `RX.BYTE` each: the parser
resynchronises where it must (R57, R139). Anywhere else there is no such operation. -/
def runRejected (p : Packet) (why : DecodeError) (s : State) : Answer :=
  match p.channel with
  | .rxWire => .next (State.deliver id p.bytes s)
  | _ => .refused (.notAnEncoding why)

/-- Run one operation from its bits. -/
def runPacket (p : Packet) (s : State) : Answer :=
  match decode p with
  | .ok i => exec i s
  | .error why => runRejected p why s

/-- Run one input: an operation, or a clock edge. -/
def runInput (x : Input) (s : State) : Answer :=
  match x with
  | .op p => runPacket p s
  | .clock g => clockEdge g s

end Sys2Proof.Machine
end

