-- ==== Sys2Proof/Machine/Step.lean ====
section
/-!
DEFINITION. One step of the machine.
-/

namespace Sys2Proof.Machine

/-- One step: the next input is taken and run. With no input pending the block does not act, for it has no agent of
its own (R9), and the state stays as it is (R128, log 1). -/
def step (s : State) : Host.Outcome State Fault Refusal :=
  match s.inputs with
  | [] => .next s
  | x :: rest => runInput x (s.taken rest)

/-- The state with the instruction whose bits are `w`, numbered as spec/opcode_table.json numbers them, as the next
input (log 10). -/
def State.withFetchWord (s : State) (nbits w : Nat) : State :=
  { s with inputs := .op (tablePacket nbits w) :: s.inputs }

end Sys2Proof.Machine
end

