-- ==== Sys2Proof/Machine/Script.lean ====
section
/-!
DEFINITION. Operation scripts (R60): a finite sequence of operations, one after the other.
-/

namespace Sys2Proof.Machine

/-- Run a script; it ends in the state after its last operation (R128). -/
def runScript : List Instr → State → Answer
  | [], s => .next s
  | i :: is, s => andThen (exec i s) (runScript is)

/-- The pseudo-operation `rx.bytes`: one `rx.byte` per byte (R60). -/
def rxBytes (bs : List Byte) : List Instr := bs.map .rxByte

/-- `tx.step A`, `tx.step W`, `tx.step E(e)` (R60). -/
def txStepOf : TxAnswer → Instr
  | .accept => .txStepA
  | .wouldBlock => .txStepW
  | .error e => .txStepE e

/-- One `tx.step` per answer of the transport. -/
def txSteps (as : List TxAnswer) : List Instr := as.map txStepOf

end Sys2Proof.Machine
end

