-- ==== Sys2Proof/Machine/HostCalls.lean ====
section
/-!
DEFINITION. The driver's call sequences (R118 to R121). They bind the host, not the block, and the scope file puts the
driver outside (log 17); they are here as the block's one documented use. The transports' answers and bytes are arguments: what
they will say is free (R9), and a call whose list runs out is not ready yet (R109).
The RX transport only delivers bytes here: what a call returns on an error of it the spec leaves open, and no call of the model
meets one (DESIGN CHOICE, unsafe: log 18).
-/

namespace Sys2Proof.Machine

/-- The tri-state a call returns (R8): completed, with the record where the call reads one; not ready; or the
transport's error, unchanged. -/
inductive CallResult where
  | complete (record : Option SensorData)
  | pending
  | failed (e : ErrCode)
deriving DecidableEq, Repr

/-- The driver's calls (R110). -/
inductive HostCall where
  | new
  | intoActive
  | intoPassive
  /-- payload 0 is sleep, 1 is wake (R46) -/
  | setSleeping (wake : Bool)
  | readActive
  | readPassive
deriving DecidableEq, Repr

/-- `repeat: tx.step t` until the result is not `Pending`. -/
def stepUntil : List TxAnswer → State → State × StepResult
  | [], s => (s, .pending)
  | a :: as, s =>
    match (s.tx.attempt a).result with
    | .pending => stepUntil as (s.txStep a)
    | r => (s.txStep a, r)

/-- `repeat: rx.byte b` until the result is true; no error of the RX transport can come among the bytes (log 18). -/
def collectUntil : List Byte → State → State × Bool
  | [], s => (s, false)
  | b :: bs, s => if (s.rxByte b).rx.done then (s.rxByte b, true) else collectUntil bs (s.rxByte b)

/-- The active read: bytes as they come, each completed frame validated, the first valid one decoded (R121). No error of the RX
transport can come among the bytes (log 18), so this never returns `failed`. -/
def readBroadcast : List Byte → State → State × CallResult
  | [], s => (s, .pending)
  | b :: bs, s =>
    if (s.rxByte b).rx.done then
      if (s.rxByte b).validate then
        ((s.rxByte b).askMeasurement, .complete (some (s.rxByte b).decodeRecord))
      else readBroadcast bs (s.rxByte b).askMeasurement
    else readBroadcast bs (s.rxByte b)

/-- Load, step until `Complete` or an error, clear; then `after`. -/
def sendThen (c : Command) (p : Half) (answers : List TxAnswer) (after : State → State × CallResult)
    (s : State) : State × CallResult :=
  match stepUntil answers (s.txLoad c p) with
  | (s1, .complete) => after s1.txCleared
  | (s1, .failed e) => (s1, .failed e)
  | (s1, _) => (s1, .pending)

/-- Wait for the forced response frame, without validating it (R119, C5). -/
def awaitResponse (bytes : List Byte) (s : State) : State × CallResult :=
  match collectUntil bytes s with
  | (s1, true) => (s1, .complete none)
  | (s1, false) => (s1, .pending)

/-- Wait for the forced response frame and decode it without a check (R121, passive). -/
def awaitRecord (bytes : List Byte) (s : State) : State × CallResult :=
  match collectUntil bytes s with
  | (s1, true) => (s1.askDecode, .complete (some s1.decodeRecord))
  | (s1, false) => (s1, .pending)

/-- A call of the driver, given what the transports will answer and deliver (R118 to R121). -/
def hostCall (call : HostCall) (answers : List TxAnswer) (bytes : List Byte) (s : State) : State × CallResult :=
  match call with
  | .new => (s.resetOnce, .complete none)
  | .intoActive => sendThen .setMode 1#16 answers (awaitResponse bytes) s
  | .intoPassive => sendThen .setMode 0#16 answers (awaitResponse bytes) s
  | .setSleeping false => sendThen .setSleep 0#16 answers (awaitResponse bytes) s
  | .setSleeping true => sendThen .setSleep 1#16 answers (fun s1 => (s1, .complete none)) s
  | .readActive => readBroadcast bytes s
  | .readPassive => sendThen .readPassive 0#16 answers (awaitRecord bytes) s

end Sys2Proof.Machine
end

