-- ==== Sys2Proof/Safety.lean ====
section
/-!
DEFINITION. What holds in every state a run from `RESET` reaches (R14, R21), and the whole-machine notions the
statements use.
-/

namespace Sys2Proof.Machine

/-- The invariants of the RX state that speak of one state (R14 items 1 to 4; the part of item 4 about the bytes received
is said of delivered frames). -/
structure State.RxInv (s : State) : Prop where
  cursor_le : s.rx.cursor.toNat ≤ 35
  length_le : s.rx.length.toNat ≤ 32
  magic1_held : 1 ≤ s.rx.cursor.toNat → s.cell 0 = 0x42#8
  magic2_held : 2 ≤ s.rx.cursor.toNat → s.cell 1 = 0x4D#8
  lenHi_held : 3 ≤ s.rx.cursor.toNat → s.cell 2 = 0x00#8
  length_pos : 4 ≤ s.rx.cursor.toNat → 1 ≤ s.rx.length.toNat
  length_held : 4 ≤ s.rx.cursor.toNat → (s.cell 3).toNat = s.rx.length.toNat
  cursor_in_frame : 4 ≤ s.rx.cursor.toNat → s.rx.cursor.toNat ≤ s.rx.length.toNat + 3
  done_cursor : s.rx.done = true → s.rx.cursor = 0#6
  done_header : s.rx.done = true →
    s.cell 0 = 0x42#8 ∧ s.cell 1 = 0x4D#8 ∧ s.cell 2 = 0x00#8 ∧ (s.cell 3).toNat = s.rx.length.toNat

/-- The invariant of the TX state (R21): while a command is in flight the checksum registers hold the sum of the five bytes
before them. -/
def State.TxInv (s : State) : Prop :=
  s.tx.cmd ≠ .none →
    (be16 s.tx.ckHi s.tx.ckLo).toNat =
      0x42 + 0x4D + s.tx.cmd.code.toNat + s.tx.payloadHi.toNat + s.tx.payloadLo.toNat

/-- The machine's invariant: R14, R21, and the canonical form of the buffer's listing. -/
structure State.Inv (s : State) : Prop where
  rx : s.RxInv
  tx : s.TxInv
  buf : s.rx.buf.wf = true

/-- The operations of the RX sub-block (R7), with the frames that arrive on its wire. -/
def isRxOperation : Instr → Bool
  | .rxClear | .rxByte _ | .rxNop | .rxValidate | .rxDecode | .frameResp _ _ | .frameMeas _ _ _ _ => true
  | .reset | .txClear | .txLoad _ _ | .txStepE _ | .txStepA | .txStepW => false
  | .cmdSetMode _ | .cmdReadPassive _ | .cmdSetSleep _ => false

/-- The operations of the TX sub-block (R7), with the frames it sends. -/
def isTxOperation : Instr → Bool
  | .txClear | .txLoad _ _ | .txStepE _ | .txStepA | .txStepW => true
  | .cmdSetMode _ | .cmdReadPassive _ | .cmdSetSleep _ => true
  | .reset | .rxClear | .rxByte _ | .rxNop | .rxValidate | .rxDecode | .frameResp _ _ | .frameMeas _ _ _ _ => false

end Sys2Proof.Machine
end

