-- ==== Sys2Proof/Certificates/Slice0/Obligations.lean ====
section
/-!
DEFINITION. The statements for the provers. Each says of the machine what a rule of spec/ says, or what follows from
several rules; where a clause rests on a choice of the model, the docstring names the log entry.
-/

open Sys2Proof Sys2Proof.Machine

/-! ## Encodings -/

/-- Decode and encode agree on every well-formed instruction, with every operand at every value that well-formedness admits.
That leaves out one form of a row: `FRAME.RESP` of declared length 28, whose bytes the model reads as `FRAME.MEAS` (the model's,
log 8; `WireFrameEncodesBackToItsBytes` covers those bytes). The byte layout of control words is the model's too (log 9). -/
def Obligations.EncodedInstructionDecodesBack : Prop :=
  ∀ i : Instr, i.wellFormed = true → decode (encode i) = .ok i

/-- What the decoder answers is always a well-formed instruction: a `FRAME.RESP` it answers has a declared length up to 32 and
as many bytes as it declares. That its length is not 28 is the model's choice of the row `FRAME.MEAS` for such a frame (log 8). -/
def Obligations.DecodedInstructionIsWellFormed : Prop :=
  ∀ (p : Packet) (i : Instr), decode p = .ok i → i.wellFormed = true

/-- On the two wires encoding the instruction read from a byte sequence gives the same bytes back, so no byte of a frame is
dropped (R45, R50, R53). On the TX wire this rests on the decoder's refusing seven bytes whose last two are not the checksum,
since a command row carries no checksum operand (DEDUCED, log 15). -/
def Obligations.WireFrameEncodesBackToItsBytes : Prop :=
  ∀ (p : Packet) (i : Instr), p.channel = .rxWire ∨ p.channel = .txWire → decode p = .ok i →
    (encode i).channel = p.channel ∧ (encode i).bytes = p.bytes

/-- Words written out from the patterns of R59, R49 and R50 decode to the operations they stand for (the byte layout of
the control words is the model's, log 9). -/
def Obligations.SpecWordsDecodeToTheirOperations : Prop :=
  decode ⟨.ctrlRx, [0x42#8, 0b00000001#8], 0⟩ = .ok (.rxByte 0x42#8) ∧
  decode ⟨.ctrlRx, [0xFF#8, 0b00000011#8], 0⟩ = .ok .rxClear ∧
  decode ⟨.ctrlRx, [0x00#8, 0b00000100#8], 0⟩ = .ok .reset ∧
  decode ⟨.ctrlTx, [0xCD#8, 0xAB#8, 0b00010010#8], 0⟩ = .ok (.txLoad .setMode 0xABCD#16) ∧
  decode ⟨.ctrlTx, [0x00#8, 0x00#8, 0b00001100#8], 7⟩ = .ok (.txStepE 7) ∧
  decode ⟨.txWire, [0x42#8, 0x4D#8, 0xE4#8, 0x00#8, 0x01#8, 0x01#8, 0x74#8], 0⟩ = .ok (.cmdSetSleep 1#16) ∧
  decode ⟨.rxWire, [0x42#8, 0x4D#8, 0x00#8, 0x02#8, 0x00#8, 0x91#8], 0⟩ = .ok (.frameResp 2#8 [0x00#8, 0x91#8])

/-- Both control words select by priority: `rst`, then clear, then byte on RX; `rst`, then clear, then load, then the step
whose answer is `Error` if `tx_err`, else `Accept` if `tx_ready`, else `WouldBlock`, on TX (R59, R29). -/
def Obligations.ControlWordsSelectByPriority : Prop :=
  ∀ g : Signals,
    decodeCtrlRx g.ctrlRx =
      (if g.rst then .reset else if g.rxClear then .rxClear
       else if g.rxValid then .rxByte g.rxData else .rxNop) ∧
    decodeCtrlTx g.ctrlTx g.txErrCode =
      (if g.rst then .reset else if g.txClear then .txClear
       else if g.txLoad then .txLoad (Command.ofSelector g.txCmdIn) g.txPayloadIn
       else if g.txErr then .txStepE g.txErrCode
       else if g.txReady then .txStepA else .txStepW)

/-- The command checksum is the sum of the five bytes before it, it never wraps, and it lies in `0x0170 .. 0x0371` (R91, R48). -/
def Obligations.CommandChecksumNeverWraps : Prop :=
  ∀ (c : Command) (p : Half), c ≠ .none →
    (commandChecksum c p).toNat =
      0x42 + 0x4D + c.code.toNat + (p.toNat / 256) + (p.toNat % 256) ∧
    0x0170 ≤ (commandChecksum c p).toNat ∧ (commandChecksum c p).toNat ≤ 0x0371

/-- The five frames the driver sends (R49). -/
def Obligations.DriverCommandFrames : Prop :=
  (encode (.cmdSetMode 0#16)).bytes = [0x42#8, 0x4D#8, 0xE1#8, 0x00#8, 0x00#8, 0x01#8, 0x70#8] ∧
  (encode (.cmdSetMode 1#16)).bytes = [0x42#8, 0x4D#8, 0xE1#8, 0x00#8, 0x01#8, 0x01#8, 0x71#8] ∧
  (encode (.cmdReadPassive 0#16)).bytes = [0x42#8, 0x4D#8, 0xE2#8, 0x00#8, 0x00#8, 0x01#8, 0x71#8] ∧
  (encode (.cmdSetSleep 0#16)).bytes = [0x42#8, 0x4D#8, 0xE4#8, 0x00#8, 0x00#8, 0x01#8, 0x73#8] ∧
  (encode (.cmdSetSleep 1#16)).bytes = [0x42#8, 0x4D#8, 0xE4#8, 0x00#8, 0x01#8, 0x01#8, 0x74#8]

/-! ## Reset -/

/-- `RESET` in every state: every register at the value of R125, the buffer at a draw of `RESET_BUF` other than the one
before, the five status outputs 0, and a cycle with `rst` does just this whatever else it requests (R125). That what has gone
out on the wire stays is read from R137 against a sentence of R125 (DEDUCED, log 13); that `rst` is one `RESET` of both
sub-blocks at a clock edge is DEDUCED (log 11); that the draws are numbered is the model's (log 3). -/
def Obligations.ResetEmptiesBothSubBlocks : Prop :=
  ∀ s : State, ∃ t, exec .reset s = .next t ∧
    t.rx.cursor = 0#6 ∧ t.rx.length = 0#6 ∧ t.rx.done = false ∧
    (∀ i, i < 32 → t.cell i = Config.resetBuf t.draw i) ∧ t.draw ≠ s.draw ∧
    t.tx = { cmd := .none, payloadHi := 0#8, payloadLo := 0#8, ckHi := 0#8, ckLo := 0#8, cursor := 0#3 } ∧
    t.rxDone = false ∧ t.rxOk = false ∧ t.txBusy = false ∧ t.txValid = false ∧ t.txDone = false ∧
    t.txWire = s.txWire ∧ t.results = s.results ∧ t.inputs = s.inputs ∧
    ∀ g : Signals, g.rst = true → clockEdge g s = .next t

/-- The state the machine starts from holds the reset values, and an unspecified buffer (R26). -/
def Obligations.StartStateHoldsTheResetValues : Prop :=
  State.reset.rx.cursor = 0#6 ∧ State.reset.rx.length = 0#6 ∧ State.reset.rx.done = false ∧
  (∀ i, i < 32 → State.reset.cell i = Config.resetBuf State.reset.draw i) ∧
  State.reset.tx.cmd = .none ∧ State.reset.tx.cursor = 0#3 ∧
  State.reset.tx.payloadHi = 0#8 ∧ State.reset.tx.payloadLo = 0#8 ∧
  State.reset.tx.ckHi = 0#8 ∧ State.reset.tx.ckLo = 0#8

/-- One `RESET` is enough: whatever the registers held at power-on, the first `RESET` gives the start state (R126; the
power-on values are free, log 6, and the draw numbers are the model's, log 3). -/
def Obligations.OneResetFromPowerOnIsEnough : Prop :=
  exec .reset State.powerOn = .next State.reset

/-! ## RX.BYTE -/

/-- `RX.BYTE` at offset 0 (R66): `0x42` is stored at index 0 and moves the cursor to 1; any other byte changes nothing but
`rx.done`. -/
def Obligations.OffsetZeroTakesOnlyMagicOne : Prop :=
  ∀ (s : State) (b : Byte), s.rx.cursor.toNat = 0 →
    (b = 0x42#8 → ∃ t, exec (.rxByte b) s = .next t ∧
      t.rx.cursor.toNat = 1 ∧ t.rx.length = s.rx.length ∧ t.rx.done = false ∧
      (∀ i, t.cell i = if i = 0 then 0x42#8 else s.cell i) ∧
      t.tx = s.tx ∧ t.txWire = s.txWire ∧ t.inputs = s.inputs ∧ t.draw = s.draw ∧
      t.results = s.results ++ [.byte false]) ∧
    (b ≠ 0x42#8 → exec (.rxByte b) s =
      .next { s with rx := { s.rx with done := false }, results := s.results ++ [.byte false] })

/-- `RX.BYTE` at offset 1 (R67): `0x4D` is stored at index 1 and moves the cursor to 2; any other byte, `0x42` included, is
discarded and sets the cursor to 0. -/
def Obligations.OffsetOneTakesOnlyMagicTwo : Prop :=
  ∀ (s : State) (b : Byte), s.rx.cursor.toNat = 1 →
    (b = 0x4D#8 → ∃ t, exec (.rxByte b) s = .next t ∧
      t.rx.cursor.toNat = 2 ∧ t.rx.length = s.rx.length ∧ t.rx.done = false ∧
      (∀ i, t.cell i = if i = 1 then 0x4D#8 else s.cell i) ∧
      t.tx = s.tx ∧ t.txWire = s.txWire ∧ t.inputs = s.inputs ∧ t.draw = s.draw ∧
      t.results = s.results ++ [.byte false]) ∧
    (b ≠ 0x4D#8 → exec (.rxByte b) s =
      .next { s with rx := { s.rx with cursor := 0#6, done := false },
                     results := s.results ++ [.byte false] })

/-- `RX.BYTE` at offset 2 (R68): `0x00` is stored at index 2 and moves the cursor to 3; any other byte is discarded and sets
the cursor to 0. -/
def Obligations.OffsetTwoTakesOnlyZero : Prop :=
  ∀ (s : State) (b : Byte), s.rx.cursor.toNat = 2 →
    (b = 0x00#8 → ∃ t, exec (.rxByte b) s = .next t ∧
      t.rx.cursor.toNat = 3 ∧ t.rx.length = s.rx.length ∧ t.rx.done = false ∧
      (∀ i, t.cell i = if i = 2 then 0x00#8 else s.cell i) ∧
      t.tx = s.tx ∧ t.txWire = s.txWire ∧ t.inputs = s.inputs ∧ t.draw = s.draw ∧
      t.results = s.results ++ [.byte false]) ∧
    (b ≠ 0x00#8 → exec (.rxByte b) s =
      .next { s with rx := { s.rx with cursor := 0#6, done := false },
                     results := s.results ++ [.byte false] })

/-- `RX.BYTE` at offset 3 (R69): above 32 the byte is discarded, with `rx.length` and `rx.buf[3]` unchanged; 0 completes a
frame here; 1 to 32 is the declared length of the frame that goes on at offset 4. -/
def Obligations.OffsetThreeTakesTheLength : Prop :=
  ∀ (s : State) (b : Byte), s.rx.cursor.toNat = 3 →
    (32 < b.toNat → exec (.rxByte b) s =
      .next { s with rx := { s.rx with cursor := 0#6, done := false },
                     results := s.results ++ [.byte false] }) ∧
    (b.toNat ≤ 32 → ∃ t, exec (.rxByte b) s = .next t ∧
      t.rx.length.toNat = b.toNat ∧
      t.rx.cursor.toNat = (if b.toNat = 0 then 0 else 4) ∧
      t.rx.done = decide (b.toNat = 0) ∧
      (∀ i, t.cell i = if i = 3 then b else s.cell i) ∧
      t.tx = s.tx ∧ t.txWire = s.txWire ∧ t.inputs = s.inputs ∧ t.draw = s.draw ∧
      t.results = s.results ++ [.byte (decide (b.toNat = 0))])

/-- `RX.BYTE` at offsets 4 to 35 (R70): the byte is stored verbatim where there is a cell; at offset `L + 3` or beyond the
frame is complete and the cursor returns to 0, else the cursor moves on. -/
def Obligations.OffsetFourOnBuffersVerbatim : Prop :=
  ∀ (s : State) (b : Byte), 4 ≤ s.rx.cursor.toNat → s.rx.cursor.toNat ≤ 35 →
    ∃ t, exec (.rxByte b) s = .next t ∧
      (∀ i, t.cell i = if i = s.rx.cursor.toNat ∧ i ≤ 31 then b else s.cell i) ∧
      t.rx.length = s.rx.length ∧
      t.rx.cursor.toNat =
        (if s.rx.length.toNat + 3 ≤ s.rx.cursor.toNat then 0 else s.rx.cursor.toNat + 1) ∧
      t.rx.done = decide (s.rx.length.toNat + 3 ≤ s.rx.cursor.toNat) ∧
      t.tx = s.tx ∧ t.txWire = s.txWire ∧ t.inputs = s.inputs ∧ t.draw = s.draw ∧
      t.results = s.results ++ [.byte (decide (s.rx.length.toNat + 3 ≤ s.rx.cursor.toNat))]

/-- `rx.done` is the result of the latest `RX.BYTE` (R71): each one writes it with its own result, which is true exactly
when the byte is a frame's last; and besides `RX.BYTE` (and the frames, which are sequences of it) only `RX.CLEAR` and
`RESET` write it. -/
def Obligations.DoneIsTheLatestByteResult : Prop :=
  (∀ (s : State) (b : Byte), ∃ t r, exec (.rxByte b) s = .next t ∧
    t.results = s.results ++ [.byte r] ∧ t.rx.done = r ∧
    (r = true ↔ (s.rx.cursor.toNat = 3 ∧ b.toNat = 0) ∨
      (4 ≤ s.rx.cursor.toNat ∧ s.rx.length.toNat + 3 ≤ s.rx.cursor.toNat))) ∧
  (∀ (s t : State), exec .rxClear s = .next t → t.rx.done = false) ∧
  (∀ (s t : State), exec .reset s = .next t → t.rx.done = false) ∧
  (∀ (i : Instr) (s t : State), (∀ b, i ≠ .rxByte b) → (∀ n bs, i ≠ .frameResp n bs) →
    (∀ d r0 r1 ck, i ≠ .frameMeas d r0 r1 ck) → i ≠ .rxClear → i ≠ .reset →
    exec i s = .next t → t.rx.done = s.rx.done)

/-- The frame of `RX.BYTE` (R33): at most the cell at index `rx.cursor` changes, `rx.length` changes only at offset 3, and
nothing outside the RX sub-block changes but the results. -/
def Obligations.RxByteTouchesOneCell : Prop :=
  ∀ (s : State) (b : Byte), ∃ t, exec (.rxByte b) s = .next t ∧
    (∀ i, i ≠ s.rx.cursor.toNat → t.cell i = s.cell i) ∧
    (s.rx.cursor.toNat ≠ 3 → t.rx.length = s.rx.length) ∧
    t.tx = s.tx ∧ t.txWire = s.txWire ∧ t.inputs = s.inputs ∧ t.draw = s.draw

/-- A byte at an offset of 32 or more is stored nowhere, yet consumed and counted (R34). -/
def Obligations.NoCellBeyondTheBuffer : Prop :=
  ∀ (s : State) (b : Byte), 32 ≤ s.rx.cursor.toNat → s.rx.cursor.toNat ≤ 35 →
    ∃ t, exec (.rxByte b) s = .next t ∧ t.rx.buf = s.rx.buf ∧
      (t.rx.cursor.toNat = s.rx.cursor.toNat + 1 ∨ (t.rx.cursor.toNat = 0 ∧ t.rx.done = true))

/-- A byte its offset rejects (R57) changes the cursor, `rx.done` and nothing else: nothing is saved and nothing is recorded
(R113, R107). -/
def Obligations.RejectedByteOnlyResynchronises : Prop :=
  ∀ (s : State) (b : Byte),
    (s.rx.cursor.toNat = 0 ∧ b ≠ 0x42#8) ∨ (s.rx.cursor.toNat = 1 ∧ b ≠ 0x4D#8) ∨
      (s.rx.cursor.toNat = 2 ∧ b ≠ 0x00#8) ∨ (s.rx.cursor.toNat = 3 ∧ 33 ≤ b.toNat) →
    exec (.rxByte b) s =
      .next { s with rx := { s.rx with cursor := 0#6, done := false },
                     results := s.results ++ [.byte false] }

/-- A stream without `0x42` never completes a frame, however long it is, and leaves every register but `rx.done` (R66, R109). -/
def Obligations.GarbageNeverCompletesAFrame : Prop :=
  ∀ (bs : List Byte) (s : State), s.rx.cursor = 0#6 → (∀ b ∈ bs, b ≠ 0x42#8) →
    ∃ t, runScript (rxBytes bs) s = .next t ∧
      t.results = s.results ++ List.replicate bs.length (.byte false) ∧
      t.rx = { s.rx with done := if bs = [] then s.rx.done else false } ∧
      t.tx = s.tx ∧ t.txWire = s.txWire ∧ t.inputs = s.inputs ∧ t.draw = s.draw

/-- A held frame outlives its window until a byte is accepted at offset 3 (R131): while the three header bytes stand in the
buffer, every byte at offsets 0 to 2, and every byte rejected at offset 3, leaves `rx.length` and every cell as they are. -/
def Obligations.HeldFrameSurvivesUntilTheNextLength : Prop :=
  ∀ (s : State) (b : Byte), s.cell 0 = 0x42#8 → s.cell 1 = 0x4D#8 → s.cell 2 = 0x00#8 →
    s.rx.cursor.toNat ≤ 2 ∨ (s.rx.cursor.toNat = 3 ∧ 32 < b.toNat) →
    ∃ t, exec (.rxByte b) s = .next t ∧ t.rx.length = s.rx.length ∧ ∀ i, t.cell i = s.cell i

/-! ## RX.CLEAR, RX.NOP -/

/-- `RX.CLEAR` (R73): `rx.cursor` and `rx.done` to 0, nothing else; the next `0x42` starts a new frame. -/
def Obligations.RxClearRestartsTheParser : Prop :=
  ∀ s : State, ∃ t, exec .rxClear s = .next t ∧
    t = { s with rx := { cursor := 0#6, length := s.rx.length, done := false, buf := s.rx.buf } } ∧
    ∃ u, exec (.rxByte 0x42#8) t = .next u ∧ u.rx.cursor.toNat = 1

/-- A cycle without an RX operation leaves the state unchanged (R29, R59). -/
def Obligations.RxNopChangesNothing : Prop :=
  ∀ s : State, exec .rxNop s = .next s

/-! ## RX.VALIDATE, RX.DECODE -/

/-- `RX.VALIDATE` (R80, R81): for a declared length up to 28, whether the sum of the `L + 2` bytes from index 0, modulo 65536,
is the big-endian checksum after them; above 28, false. It changes nothing. -/
def Obligations.ValidateComparesTheSum : Prop :=
  ∀ s : State,
    (s.rx.length.toNat ≤ 28 → exec .rxValidate s = .next { s with results := s.results ++ [.valid (decide (
      (((List.range (s.rx.length.toNat + 2)).map fun i => (s.cell i).toNat).sum) % 65536 =
        256 * (s.cell (s.rx.length.toNat + 2)).toNat + (s.cell (s.rx.length.toNat + 3)).toNat))] }) ∧
    (28 < s.rx.length.toNat → exec .rxValidate s =
      .next { s with results := s.results ++ [.valid false] })

/-- A held frame of declared length 0 or 1 never validates, and the smallest frame that does is `42 4D 00 02 00 91` (R82). -/
def Obligations.LengthZeroOrOneNeverValidates : Prop :=
  (∀ s : State, s.RxInv → s.rx.done = true → s.rx.length.toNat ≤ 1 →
    exec .rxValidate s = .next { s with results := s.results ++ [.valid false] }) ∧
  (∀ s : State, s.rx.cursor = 0#6 → ∃ t,
    runScript (rxBytes [0x42#8, 0x4D#8, 0x00#8, 0x02#8, 0x00#8, 0x91#8] ++ [.rxValidate]) s = .next t ∧
    t.rx.done = true ∧
    t.results = s.results ++ List.replicate 5 (.byte false) ++ [.byte true, .valid true])

/-- One wrong byte is always detected (R83): of two states whose frames of the same declared length 2 to 28 differ in exactly
one byte, at most one validates. The sum of a frame that fits is at most 7650. -/
def Obligations.SingleByteCorruptionIsDetected : Prop :=
  (∀ (s t : State) (k : Nat), 2 ≤ s.rx.length.toNat → s.rx.length.toNat ≤ 28 → t.rx.length = s.rx.length →
    k ≤ s.rx.length.toNat + 3 → t.cell k ≠ s.cell k →
    (∀ i, i ≠ k → i ≤ s.rx.length.toNat + 3 → t.cell i = s.cell i) →
    s.validate = true → t.validate = false) ∧
  (∀ s : State, s.rx.length.toNat ≤ 28 → s.rxSum.toNat ≤ 7650) ∧
  (∀ s : State, s.rx.length.toNat ≤ 28 → 0x1D < (s.cell (s.rx.length.toNat + 2)).toNat → s.validate = false)

/-- `RX.DECODE` (R84): field `i` is `be16(rx.buf[4 + 2 i], rx.buf[5 + 2 i])`, whatever the state; nothing changes. -/
def Obligations.DecodeReadsTwelveFields : Prop :=
  ∀ s : State, ∃ d : SensorData, exec .rxDecode s = .next { s with results := s.results ++ [.record d] } ∧
    d.pm10.toNat = 256 * (s.cell 4).toNat + (s.cell 5).toNat ∧
    d.pm25.toNat = 256 * (s.cell 6).toNat + (s.cell 7).toNat ∧
    d.pm100.toNat = 256 * (s.cell 8).toNat + (s.cell 9).toNat ∧
    d.pm10Atmos.toNat = 256 * (s.cell 10).toNat + (s.cell 11).toNat ∧
    d.pm25Atmos.toNat = 256 * (s.cell 12).toNat + (s.cell 13).toNat ∧
    d.pm100Atmos.toNat = 256 * (s.cell 14).toNat + (s.cell 15).toNat ∧
    d.pm03Count.toNat = 256 * (s.cell 16).toNat + (s.cell 17).toNat ∧
    d.pm05Count.toNat = 256 * (s.cell 18).toNat + (s.cell 19).toNat ∧
    d.pm10Count.toNat = 256 * (s.cell 20).toNat + (s.cell 21).toNat ∧
    d.pm25Count.toNat = 256 * (s.cell 22).toNat + (s.cell 23).toNat ∧
    d.pm50Count.toNat = 256 * (s.cell 24).toNat + (s.cell 25).toNat ∧
    d.pm100Count.toNat = 256 * (s.cell 26).toNat + (s.cell 27).toNat

/-- `RX.DECODE` performs no validation: two states that agree on buffer indices 4 to 27 decode alike, whatever their length,
flag, header, checksum and TX state (R85). -/
def Obligations.DecodeSeesOnlyBytesFourToTwentySeven : Prop :=
  ∀ s t : State, (∀ i, 4 ≤ i → i ≤ 27 → t.cell i = s.cell i) →
    ∃ d, exec .rxDecode s = .next { s with results := s.results ++ [.record d] } ∧
      exec .rxDecode t = .next { t with results := t.results ++ [.record d] }

/-! ## Frames on the RX wire -/

/-- A frame row is its bytes on the RX wire, in order, one `RX.BYTE` each, whatever the parser was doing: it leaves the RX
registers and the byte results that the script `rx.bytes` leaves, and nothing else (R65, R39). That the queries are asked
inside the held window is the model's (log 7). -/
def Obligations.FrameRowsAreParsedByteByByte : Prop :=
  ∀ (i : Instr) (s : State),
    (∃ len body, i = .frameResp len body) ∨ (∃ d r0 r1 ck, i = .frameMeas d r0 r1 ck) →
    ∃ t u, exec i s = .next t ∧ runScript (rxBytes (encode i).bytes) s = .next u ∧
      t.rx = u.rx ∧ t.tx = s.tx ∧ t.txWire = s.txWire ∧ t.inputs = s.inputs ∧ t.draw = s.draw ∧
      t.results.filter (fun r => match r with | .byte _ => true | _ => false) =
        u.results.filter (fun r => match r with | .byte _ => true | _ => false)

/-- A frame of declared length 2 to 28 with the right checksum, after any bytes without `0x42`, is received (R74): its last byte is the first
to return true, the buffer then holds the frame, and it validates. -/
def Obligations.WellFormedFrameIsReceived : Prop :=
  ∀ (noise body : List Byte) (len ckHi ckLo : Byte) (s : State), s.rx.cursor = 0#6 →
    (∀ b ∈ noise, b ≠ 0x42#8) → len.toNat ≤ 28 → body.length + 2 = len.toNat →
    256 * ckHi.toNat + ckLo.toNat = 0x42 + 0x4D + len.toNat + (body.map BitVec.toNat).sum →
    ∃ t, runScript (rxBytes (noise ++ responseFrame len (body ++ [ckHi, ckLo]))) s = .next t ∧
      t.results = s.results ++ List.replicate (noise.length + len.toNat + 3) (.byte false) ++ [.byte true] ∧
      t.rx.cursor = 0#6 ∧ t.rx.length.toNat = len.toNat ∧
      t.cells (len.toNat + 4) = [0x42#8, 0x4D#8, 0x00#8, len] ++ body ++ [ckHi, ckLo] ∧
      t.validate = true ∧ t.rxOk = true ∧ t.tx = s.tx ∧ t.txWire = s.txWire

/-- The row `FRAME.RESP` with a frame that fits, whatever its bytes (R38, R54, R80): its bytes are collected, the last one, at
offset `L + 3`, completes it, and the row reports, for a declared length of 2 to 28, whether its checksum is the sum, and for 0
and 1, false (R69, R70, R82, R143); the cells after the frame keep what they held. That the row asks the query itself is the
model's (log 7). -/
def Obligations.ResponseFrameRowReportsItsChecksum : Prop :=
  (∀ (len : Byte) (body : List Byte) (ckHi ckLo : Byte) (s : State), s.rx.cursor = 0#6 →
    len.toNat ≤ 28 → body.length + 2 = len.toNat →
    ∃ t, exec (.frameResp len (body ++ [ckHi, ckLo])) s = .next t ∧
      t.results = s.results ++ List.replicate (len.toNat + 3) (.byte false) ++
        [.byte true, .valid (decide (0x42 + 0x4D + len.toNat + (body.map BitVec.toNat).sum =
          256 * ckHi.toNat + ckLo.toNat))] ∧
      t.rx.cursor = 0#6 ∧ t.rx.length.toNat = len.toNat ∧ t.rx.done = true ∧
      t.cells (len.toNat + 4) = [0x42#8, 0x4D#8, 0x00#8, len] ++ body ++ [ckHi, ckLo] ∧
      (∀ i, len.toNat + 4 ≤ i → t.cell i = s.cell i) ∧
      t.tx = s.tx ∧ t.txWire = s.txWire ∧ t.inputs = s.inputs ∧ t.draw = s.draw) ∧
  (∀ (len : Byte) (body : List Byte) (s : State), s.rx.cursor = 0#6 →
    len.toNat ≤ 1 → body.length = len.toNat →
    ∃ t, exec (.frameResp len body) s = .next t ∧
      t.results = s.results ++ List.replicate (len.toNat + 3) (.byte false) ++ [.byte true, .valid false] ∧
      t.rx.cursor = 0#6 ∧ t.rx.length.toNat = len.toNat ∧ t.rx.done = true ∧
      t.cells (len.toNat + 4) = [0x42#8, 0x4D#8, 0x00#8, len] ++ body ∧
      (∀ i, len.toNat + 4 ≤ i → t.cell i = s.cell i) ∧
      t.tx = s.tx ∧ t.txWire = s.txWire ∧ t.inputs = s.inputs ∧ t.draw = s.draw)

/-- The round trip of a measurement (R86): the frame of any record, with any two bytes at offsets 28 and 29 and the sum of its
first 30 bytes as checksum, completes on its 32nd byte, validates, and decodes to that record. That the row asks the two
queries itself is the model's (log 7). -/
def Obligations.MeasurementRoundTrip : Prop :=
  ∀ (d : SensorData) (r0 r1 : Byte) (ck : Half) (s : State), s.rx.cursor = 0#6 →
    ck.toNat = (((measurementFrame d r0 r1 ck).take 30).map BitVec.toNat).sum →
    ∃ t, exec (.frameMeas d r0 r1 ck) s = .next t ∧
      t.results = s.results ++ List.replicate 31 (.byte false) ++ [.byte true, .valid true, .record d] ∧
      t.rx.cursor = 0#6 ∧ t.rx.length.toNat = 28 ∧ t.rx.done = true ∧
      t.cells 32 = measurementFrame d r0 r1 ck ∧
      t.tx = s.tx ∧ t.txWire = s.txWire ∧ t.inputs = s.inputs ∧ t.draw = s.draw

/-- A frame of declared length 29 to 32 is collected and reported complete, only its first 32 bytes are stored, and it never
validates (R143, R81, R34). That the row asks `RX.VALIDATE` itself is the model's (log 7). -/
def Obligations.FrameThatDoesNotFitNeverValidates : Prop :=
  ∀ (len : Byte) (body : List Byte) (s : State), s.rx.cursor = 0#6 →
    29 ≤ len.toNat → len.toNat ≤ 32 → body.length = len.toNat →
    ∃ t, exec (.frameResp len body) s = .next t ∧
      t.results = s.results ++ List.replicate (len.toNat + 3) (.byte false) ++ [.byte true, .valid false] ∧
      t.rx.cursor = 0#6 ∧ t.rx.length.toNat = len.toNat ∧ t.rx.done = true ∧
      t.cells 32 = [0x42#8, 0x4D#8, 0x00#8, len] ++ body.take 28 ∧
      t.tx = s.tx ∧ t.txWire = s.txWire

/-- A stray `0x42` just before a frame loses the frame (R133): the frame's own `0x42` is rejected at offset 1, and if no later
byte is `0x42` every byte after it is discarded at offset 0. -/
def Obligations.StrayMagicLosesTheFrame : Prop :=
  ∀ (len : Byte) (body : List Byte) (s : State), s.rx.cursor = 0#6 → len ≠ 0x42#8 →
    (∀ b ∈ body, b ≠ 0x42#8) →
    ∃ t, runScript (rxBytes (0x42#8 :: responseFrame len body)) s = .next t ∧
      t.results = s.results ++ List.replicate (body.length + 5) (.byte false) ∧
      t.rx.cursor = 0#6 ∧ t.rx.length = s.rx.length ∧ t.rx.done = false ∧
      (∀ i, t.cell i = if i = 0 then 0x42#8 else s.cell i)

/-! ## The TX serializer -/

/-- `TX.LOAD(c, p)` (R90): accepted exactly when no command is in flight and `c` is not `None`; then every TX register is
written, the checksum being the sum of five bytes; refused, nothing changes. -/
def Obligations.LoadFillsAFreeSlotOnly : Prop :=
  ∀ (s : State) (c : Command) (p : Half),
    (s.tx.cmd ≠ .none ∨ c = .none → exec (.txLoad c p) s =
      .next { s with results := s.results ++ [.load .refused] }) ∧
    (s.tx.cmd = .none → c ≠ .none → ∃ t, exec (.txLoad c p) s = .next t ∧
      t.tx.cmd = c ∧ t.tx.payloadHi.toNat = p.toNat / 256 ∧ t.tx.payloadLo.toNat = p.toNat % 256 ∧
      256 * t.tx.ckHi.toNat + t.tx.ckLo.toNat =
        (0x42 + 0x4D + c.code.toNat + p.toNat / 256 + p.toNat % 256) % 65536 ∧
      t.tx.cursor = 0#3 ∧ t.txBusy = true ∧ t.txValid = true ∧ t.txDone = false ∧
      t.rx = s.rx ∧ t.txWire = s.txWire ∧ t.inputs = s.inputs ∧ t.draw = s.draw ∧
      t.results = s.results ++ [.load .accepted])

/-- `TXBYTE(k)` for `k` from 0 to 6 (R92). -/
def Obligations.TxByteTable : Prop :=
  ∀ t : TxState, t.cmd ≠ .none →
    t.byteAt 0 = some 0x42#8 ∧ t.byteAt 1 = some 0x4D#8 ∧
    t.byteAt 2 = some (if t.cmd = .setMode then 0xE1#8 else if t.cmd = .readPassive then 0xE2#8 else 0xE4#8) ∧
    t.byteAt 3 = some t.payloadHi ∧ t.byteAt 4 = some t.payloadLo ∧
    t.byteAt 5 = some t.ckHi ∧ t.byteAt 6 = some t.ckLo

/-- `TX.STEP(Accept)` with a command in flight and `tx.cursor = k < 7` (R94): `TXBYTE(k)` goes on the wire, the cursor moves
to `k + 1`, and the result is `Complete` if `k = 6`, else `Pending`. -/
def Obligations.AcceptedStepSendsTheNextByte : Prop :=
  ∀ s : State, s.tx.cmd ≠ .none → s.tx.cursor.toNat < 7 →
    ∃ b t, s.tx.byteAt s.tx.cursor.toNat = some b ∧ exec .txStepA s = .next t ∧
      t.txWire = s.txWire ++ [b] ∧ t.tx.cursor.toNat = s.tx.cursor.toNat + 1 ∧
      t.tx = { s.tx with cursor := t.tx.cursor } ∧
      t.results = s.results ++ [.step (if s.tx.cursor.toNat = 6 then .complete else .pending)] ∧
      t.rx = s.rx ∧ t.inputs = s.inputs ∧ t.draw = s.draw

/-- `TX.STEP(WouldBlock)` with a byte to offer (R95): nothing changes, the result is `Pending`. -/
def Obligations.BlockedStepChangesNothing : Prop :=
  ∀ s : State, s.tx.cmd ≠ .none → s.tx.cursor.toNat < 7 →
    exec .txStepW s = .next { s with results := s.results ++ [.step .pending] }

/-- `TX.STEP(Error(e))` with a byte to offer (R98): nothing changes, the command stays in flight, and `e` is passed through
unchanged. -/
def Obligations.FailedStepPassesTheErrorThrough : Prop :=
  ∀ (s : State) (e : ErrCode), s.tx.cmd ≠ .none → s.tx.cursor.toNat < 7 →
    exec (.txStepE e) s = .next { s with results := s.results ++ [.step (.failed e)] }

/-- `TX.STEP(t)` without a command (R96): nothing changes, the result is `Idle`, whatever `t` and the cursor are. -/
def Obligations.StepWithoutCommandIsIdle : Prop :=
  ∀ (s : State) (a : TxAnswer), s.tx.cmd = .none →
    exec (txStepOf a) s = .next { s with results := s.results ++ [.step .idle] }

/-- `TX.STEP(t)` at cursor 7 (R97): nothing changes, the result is `Complete`, whatever `t` is. -/
def Obligations.StepAfterTheLastByteIsComplete : Prop :=
  ∀ (s : State) (a : TxAnswer), s.tx.cmd ≠ .none → s.tx.cursor.toNat = 7 →
    exec (txStepOf a) s = .next { s with results := s.results ++ [.step .complete] }

/-- `TX.CLEAR` (R99): `tx.cmd <- None` and nothing else, at any cursor; the three outputs fall to 0. -/
def Obligations.TxClearFreesTheSlot : Prop :=
  ∀ s : State, ∃ t, exec .txClear s = .next t ∧
    t = { s with tx := { cmd := .none, payloadHi := s.tx.payloadHi, payloadLo := s.tx.payloadLo,
                         ckHi := s.tx.ckHi, ckLo := s.tx.ckLo, cursor := s.tx.cursor } } ∧
    t.txBusy = false ∧ t.txValid = false ∧ t.txDone = false

/-- The wire property (R100): after an accepted load, whatever the transport answers and however often it blocks or fails, the
bytes that have gone out are the first bytes of the command's frame, as many as were accepted and at most seven, each once; the
frame is fully sent exactly when seven were. -/
def Obligations.WireCarriesTheFrameOnce : Prop :=
  ∀ (c : Command) (p : Half) (answers : List TxAnswer) (s : State), s.tx.cmd = .none → c ≠ .none →
    ∃ t ckHi ckLo, runScript (.txLoad c p :: txSteps answers) s = .next t ∧
      256 * BitVec.toNat (w := 8) ckHi + BitVec.toNat (w := 8) ckLo =
        0x42 + 0x4D + c.code.toNat + p.toNat / 256 + p.toNat % 256 ∧
      t.txWire = s.txWire ++ List.take (answers.count .accept)
        [0x42#8, 0x4D#8, c.code, BitVec.ofNat 8 (p.toNat / 256), BitVec.ofNat 8 p.toNat, ckHi, ckLo] ∧
      t.tx.cursor.toNat = min 7 (answers.count .accept) ∧ t.tx.cmd = c ∧
      t.txDone = decide (7 ≤ answers.count .accept) ∧
      (.step .complete ∈ t.results.drop s.results.length ↔ 7 ≤ answers.count .accept) ∧ t.rx = s.rx

/-- The three command-frame rows: with a free slot the seven bytes of the frame go out and the slot is left at cursor 7, the
host having to clear it (R100, R22); with a command in flight the load is refused and nothing is sent (R90, R136). That the row
is a load and seven accepted steps is the model's (log 7). -/
def Obligations.CommandRowsSendTheirFrame : Prop :=
  ∀ (s : State) (p : Half) (i : Instr) (c : Command),
    (i = .cmdSetMode p ∧ c = .setMode) ∨ (i = .cmdReadPassive p ∧ c = .readPassive) ∨
      (i = .cmdSetSleep p ∧ c = .setSleep) →
    (s.tx.cmd = .none → ∃ t, exec i s = .next t ∧ t.txWire = s.txWire ++ (encode i).bytes ∧
      t.tx.cmd = c ∧ t.tx.cursor.toNat = 7 ∧ t.txDone = true ∧
      t.results = s.results ++ [.load .accepted] ++ List.replicate 6 (.step .pending) ++ [.step .complete] ∧
      t.rx = s.rx ∧ t.inputs = s.inputs ∧ t.draw = s.draw) ∧
    (s.tx.cmd ≠ .none → exec i s = .next { s with results := s.results ++ [.load .refused] })

/-! ## The whole machine -/

/-- Every step keeps the invariant: R14 of the RX state, R21 of the TX state, and the canonical form of the buffer, from every
state that meets it and whatever the next input is. -/
def Obligations.EveryStepKeepsTheInvariant : Prop :=
  ∀ s t : State, s.Inv → step s = .next t → t.Inv

/-- The invariant holds after `RESET`. -/
def Obligations.StartStateMeetsTheInvariant : Prop := State.reset.Inv

/-- No operation raises, traps, faults or halts: every operation answers a next state, in every state and on every operand
(R105). -/
def Obligations.NoOperationStops : Prop :=
  ∀ (i : Instr) (s : State), ∃ t, exec i s = .next t

/-- A step runs the decoded instruction: when the next input is a packet that decodes to `i`, the step is `exec i` once the
input is taken and the results of the input before it are dropped (log 1). -/
def Obligations.StepRunsTheDecodedInstruction : Prop :=
  ∀ (s : State) (p : Packet) (rest : List Input) (i : Instr), s.inputs = .op p :: rest →
    decode p = .ok i → step s = exec i { s with inputs := rest, results := [] }

/-- With no input pending the block does not act (R9), and the state stays (log 1). -/
def Obligations.BlockNeverActsOnItsOwn : Prop :=
  ∀ s : State, s.inputs = [] → step s = .next s

/-- Bytes of the RX wire that are no frame are taken all the same, one `RX.BYTE` each (R57, R139); any other packet that is no
encoding is refused by name (the model's, log 1). -/
def Obligations.RxWireTakesEveryByte : Prop :=
  ∀ (s : State) (p : Packet) (rest : List Input) (why : DecodeError), s.inputs = .op p :: rest →
    decode p = .error why →
    (p.channel = .rxWire → ∃ t, step s = .next t ∧
      runScript (rxBytes p.bytes) { s with inputs := rest, results := [] } = .next t) ∧
    (p.channel ≠ .rxWire → step s = .refused (.notAnEncoding why))

/-- An RX operation and a TX operation commute (R39 item 3): the final block and wire are the same in either order, and so is
what each returns. -/
def Obligations.RxAndTxOperationsCommute : Prop :=
  ∀ (i j : Instr) (s : State), isRxOperation i = true → isTxOperation j = true →
    ∃ (t u : State) (ri rj : List Result),
      andThen (exec i s) (exec j) = .next t ∧ andThen (exec j s) (exec i) = .next u ∧
      t.results = s.results ++ ri ++ rj ∧ u.results = s.results ++ rj ++ ri ∧
      t = { u with results := t.results }

/-- Operations on RX neither read nor write TX state (R7): they leave the TX registers and the wire as they are, and from two
states with the same RX registers and the same draw they leave the same RX registers and return the same results. -/
def Obligations.RxOperationsIgnoreTheTxState : Prop :=
  ∀ (i : Instr) (s s' : State), isRxOperation i = true → s'.rx = s.rx → s'.draw = s.draw →
    ∃ (t t' : State) (r : List Result), exec i s = .next t ∧ exec i s' = .next t' ∧
      t.tx = s.tx ∧ t.txWire = s.txWire ∧ t'.rx = t.rx ∧
      t.results = s.results ++ r ∧ t'.results = s'.results ++ r

/-- Operations on TX neither read nor write RX state (R7, R101): they leave the RX registers and every buffer cell as they
are, and from two states with the same TX registers they leave the same TX registers, send the same bytes and return the same
results. -/
def Obligations.TxOperationsIgnoreTheRxState : Prop :=
  ∀ (i : Instr) (s s' : State), isTxOperation i = true → s'.tx = s.tx →
    ∃ (t t' : State) (r : List Result) (out : List Byte), exec i s = .next t ∧ exec i s' = .next t' ∧
      t.rx = s.rx ∧ (∀ k, t.cell k = s.cell k) ∧ t'.tx = t.tx ∧
      t.txWire = s.txWire ++ out ∧ t'.txWire = s'.txWire ++ out ∧
      t.results = s.results ++ r ∧ t'.results = s'.results ++ r

/-- One clock edge (R29, R112): with `rst` one `RESET`; else on RX a clear before a byte, and on TX a clear before a load before
the implicit step, which happens only while `tx_valid = 1` and whose error has priority over ready; a lower-priority request is
dropped. That the RX result stands before the TX result is the model's (log 11). -/
def Obligations.ClockEdgeFollowsThePriorities : Prop :=
  ∀ (s : State) (g : Signals) (rest : List Input), s.inputs = .clock g :: rest →
    (g.rst = true → step s = exec .reset { s with inputs := rest, results := [] }) ∧
    (g.rst = false → ∃ u,
      (if g.rxClear then exec .rxClear { s with inputs := rest, results := [] }
       else if g.rxValid then exec (.rxByte g.rxData) { s with inputs := rest, results := [] }
       else .next { s with inputs := rest, results := [] }) = .next u ∧
      step s =
        (if g.txClear then exec .txClear u
         else if g.txLoad then exec (.txLoad (Command.ofSelector g.txCmdIn) g.txPayloadIn) u
         else if s.tx.cmd ≠ .none ∧ s.tx.cursor.toNat < 7 then
           (if g.txErr then exec (.txStepE g.txErrCode) u
            else if g.txReady then exec .txStepA u else exec .txStepW u)
         else .next u))

/-- The status outputs are the functions of the state that R24 lists. -/
def Obligations.StatusOutputsFollowTheState : Prop :=
  ∀ s : State,
    s.outputs.rxDone = s.rx.done ∧
    (s.outputs.rxOk = true ↔ s.rx.done = true ∧
      exec .rxValidate s = .next { s with results := s.results ++ [.valid true] }) ∧
    exec .rxDecode s = .next { s with results := s.results ++ [.record s.outputs.rxFields] } ∧
    (s.outputs.txBusy = true ↔ s.tx.cmd ≠ .none) ∧
    (s.outputs.txValid = true ↔ s.tx.cmd ≠ .none ∧ s.tx.cursor.toNat < 7) ∧
    (s.outputs.txValid = true → s.tx.byteAt s.tx.cursor.toNat = some s.outputs.txData) ∧
    (s.outputs.txDone = true ↔ s.tx.cmd ≠ .none ∧ s.tx.cursor.toNat = 7)

/-- `tx_fail` is the `Failed` result of the cycle's `TX.STEP` (R29): in a cycle without `rst`, clear and load in which it is 1,
the TX result is `Failed` with `tx_err_code`, and the TX registers and the wire are unchanged. That `tx_fail` looks at the state
before the edge is DEDUCED (log 16); that the TX result stands last in `results` is the model's (log 11). -/
def Obligations.TxFailIsTheFailedResult : Prop :=
  ∀ (s : State) (g : Signals), g.rst = false → g.txClear = false → g.txLoad = false → s.txFail g = true →
    ∃ t, clockEdge g s = .next t ∧ t.results.getLast? = some (.step (.failed (txFailCode g))) ∧
      t.tx = s.tx ∧ t.txWire = s.txWire

/-- The driver's `into_active`, when it completes from a free slot, has put exactly the frame `42 4D E1 00 01 01 71` on the wire,
whatever the transport answered on the way, and leaves the slot free and a frame held (R119, R49). The call is the model's
writing of R119's sequence, which is outside the block (DEDUCED, log 17). -/
def Obligations.IntoActiveSendsTheSetModeFrame : Prop :=
  ∀ (answers : List TxAnswer) (bytes : List Byte) (s t : State) (r : Option SensorData), s.tx.cmd = .none →
    hostCall .intoActive answers bytes s = (t, .complete r) →
    t.txWire = s.txWire ++ [0x42#8, 0x4D#8, 0xE1#8, 0x00#8, 0x01#8, 0x01#8, 0x71#8] ∧
      t.tx.cmd = .none ∧ t.rx.done = true

/-- The driver's active read (R121): whatever it returns, it touches no TX state and puts nothing on the wire; and what it returns
complete is the record of a held frame that validates. The call is the model's writing of R121's sequence, which is outside the
block (DEDUCED, log 17). That it never returns an error is the model's choice to deliver bytes only and no error of the RX
transport (DESIGN CHOICE, log 18). -/
def Obligations.ActiveReadReturnsOnlyValidatedRecords : Prop :=
  ∀ (answers : List TxAnswer) (bytes : List Byte) (s t : State) (res : CallResult),
    hostCall .readActive answers bytes s = (t, res) →
    t.tx = s.tx ∧ t.txWire = s.txWire ∧ (∀ e, res ≠ .failed e) ∧
    ∀ r, res = .complete r → t.rxOk = true ∧ r = some t.rxFields
end

