-- ==== Sys2Proof/Laws/State.lean ====
section
/-!
SUPPORT. One lemma per field per update of the state, true by rfl.
-/

namespace Sys2Proof.Machine

@[simp] theorem State.answer_rx (s : State) (r : Result) : (s.answer r).rx = s.rx := rfl
@[simp] theorem State.answer_tx (s : State) (r : Result) : (s.answer r).tx = s.tx := rfl
@[simp] theorem State.answer_txWire (s : State) (r : Result) : (s.answer r).txWire = s.txWire := rfl
@[simp] theorem State.answer_results (s : State) (r : Result) : (s.answer r).results = s.results ++ [r] := rfl
@[simp] theorem State.answer_inputs (s : State) (r : Result) : (s.answer r).inputs = s.inputs := rfl
@[simp] theorem State.answer_draw (s : State) (r : Result) : (s.answer r).draw = s.draw := rfl

@[simp] theorem State.emit_rx (s : State) (o : List Byte) : (s.emit o).rx = s.rx := rfl
@[simp] theorem State.emit_tx (s : State) (o : List Byte) : (s.emit o).tx = s.tx := rfl
@[simp] theorem State.emit_txWire (s : State) (o : List Byte) : (s.emit o).txWire = s.txWire ++ o := rfl
@[simp] theorem State.emit_results (s : State) (o : List Byte) : (s.emit o).results = s.results := rfl
@[simp] theorem State.emit_inputs (s : State) (o : List Byte) : (s.emit o).inputs = s.inputs := rfl
@[simp] theorem State.emit_draw (s : State) (o : List Byte) : (s.emit o).draw = s.draw := rfl

@[simp] theorem State.taken_rx (s : State) (l : List Input) : (s.taken l).rx = s.rx := rfl
@[simp] theorem State.taken_tx (s : State) (l : List Input) : (s.taken l).tx = s.tx := rfl
@[simp] theorem State.taken_txWire (s : State) (l : List Input) : (s.taken l).txWire = s.txWire := rfl
@[simp] theorem State.taken_results (s : State) (l : List Input) : (s.taken l).results = [] := rfl
@[simp] theorem State.taken_inputs (s : State) (l : List Input) : (s.taken l).inputs = l := rfl
@[simp] theorem State.taken_draw (s : State) (l : List Input) : (s.taken l).draw = s.draw := rfl

@[simp] theorem State.resetOnce_rx (s : State) : (s.resetOnce).rx = RxState.empty := rfl
@[simp] theorem State.resetOnce_tx (s : State) : (s.resetOnce).tx = TxState.empty := rfl
@[simp] theorem State.resetOnce_txWire (s : State) : (s.resetOnce).txWire = s.txWire := rfl
@[simp] theorem State.resetOnce_results (s : State) : (s.resetOnce).results = s.results := rfl
@[simp] theorem State.resetOnce_inputs (s : State) : (s.resetOnce).inputs = s.inputs := rfl
@[simp] theorem State.resetOnce_draw (s : State) : (s.resetOnce).draw = s.draw + 1 := rfl

@[simp] theorem State.rxCleared_rx (s : State) : (s.rxCleared).rx = { s.rx with cursor := 0#6, done := false } := rfl
@[simp] theorem State.rxCleared_tx (s : State) : (s.rxCleared).tx = s.tx := rfl
@[simp] theorem State.rxCleared_txWire (s : State) : (s.rxCleared).txWire = s.txWire := rfl
@[simp] theorem State.rxCleared_results (s : State) : (s.rxCleared).results = s.results := rfl
@[simp] theorem State.rxCleared_inputs (s : State) : (s.rxCleared).inputs = s.inputs := rfl
@[simp] theorem State.rxCleared_draw (s : State) : (s.rxCleared).draw = s.draw := rfl

@[simp] theorem State.txCleared_rx (s : State) : (s.txCleared).rx = s.rx := rfl
@[simp] theorem State.txCleared_tx (s : State) : (s.txCleared).tx = { s.tx with cmd := .none } := rfl
@[simp] theorem State.txCleared_txWire (s : State) : (s.txCleared).txWire = s.txWire := rfl
@[simp] theorem State.txCleared_results (s : State) : (s.txCleared).results = s.results := rfl
@[simp] theorem State.txCleared_inputs (s : State) : (s.txCleared).inputs = s.inputs := rfl
@[simp] theorem State.txCleared_draw (s : State) : (s.txCleared).draw = s.draw := rfl

@[simp] theorem State.rxByte_rx (s : State) (b : Byte) : (s.rxByte b).rx = (s.rx.byte b).1 := rfl
@[simp] theorem State.rxByte_tx (s : State) (b : Byte) : (s.rxByte b).tx = s.tx := rfl
@[simp] theorem State.rxByte_txWire (s : State) (b : Byte) : (s.rxByte b).txWire = s.txWire := rfl
@[simp] theorem State.rxByte_results (s : State) (b : Byte) : (s.rxByte b).results = s.results ++ [.byte (s.rx.byte b).2] := rfl
@[simp] theorem State.rxByte_inputs (s : State) (b : Byte) : (s.rxByte b).inputs = s.inputs := rfl
@[simp] theorem State.rxByte_draw (s : State) (b : Byte) : (s.rxByte b).draw = s.draw := rfl

@[simp] theorem State.txStep_rx (s : State) (a : TxAnswer) : (s.txStep a).rx = s.rx := rfl
@[simp] theorem State.txStep_tx (s : State) (a : TxAnswer) : (s.txStep a).tx = (s.tx.attempt a).tx := rfl
@[simp] theorem State.txStep_txWire (s : State) (a : TxAnswer) : (s.txStep a).txWire = s.txWire ++ (s.tx.attempt a).emitted := rfl
@[simp] theorem State.txStep_results (s : State) (a : TxAnswer) : (s.txStep a).results = s.results ++ [.step (s.tx.attempt a).result] := rfl
@[simp] theorem State.txStep_inputs (s : State) (a : TxAnswer) : (s.txStep a).inputs = s.inputs := rfl
@[simp] theorem State.txStep_draw (s : State) (a : TxAnswer) : (s.txStep a).draw = s.draw := rfl

@[simp] theorem State.askValidate_rx (s : State) : (s.askValidate).rx = s.rx := rfl
@[simp] theorem State.askValidate_tx (s : State) : (s.askValidate).tx = s.tx := rfl
@[simp] theorem State.askValidate_txWire (s : State) : (s.askValidate).txWire = s.txWire := rfl
@[simp] theorem State.askValidate_results (s : State) : (s.askValidate).results = s.results ++ [.valid s.validate] := rfl
@[simp] theorem State.askValidate_inputs (s : State) : (s.askValidate).inputs = s.inputs := rfl
@[simp] theorem State.askValidate_draw (s : State) : (s.askValidate).draw = s.draw := rfl

@[simp] theorem State.askDecode_rx (s : State) : (s.askDecode).rx = s.rx := rfl
@[simp] theorem State.askDecode_tx (s : State) : (s.askDecode).tx = s.tx := rfl
@[simp] theorem State.askDecode_txWire (s : State) : (s.askDecode).txWire = s.txWire := rfl
@[simp] theorem State.askDecode_results (s : State) : (s.askDecode).results = s.results ++ [.record s.decodeRecord] := rfl
@[simp] theorem State.askDecode_inputs (s : State) : (s.askDecode).inputs = s.inputs := rfl
@[simp] theorem State.askDecode_draw (s : State) : (s.askDecode).draw = s.draw := rfl

@[simp] theorem State.withFetchWord_rx (s : State) (n w : Nat) : (s.withFetchWord n w).rx = s.rx := rfl
@[simp] theorem State.withFetchWord_tx (s : State) (n w : Nat) : (s.withFetchWord n w).tx = s.tx := rfl
@[simp] theorem State.withFetchWord_txWire (s : State) (n w : Nat) : (s.withFetchWord n w).txWire = s.txWire := rfl
@[simp] theorem State.withFetchWord_results (s : State) (n w : Nat) : (s.withFetchWord n w).results = s.results := rfl
@[simp] theorem State.withFetchWord_inputs (s : State) (n w : Nat) : (s.withFetchWord n w).inputs = .op (tablePacket n w) :: s.inputs := rfl
@[simp] theorem State.withFetchWord_draw (s : State) (n w : Nat) : (s.withFetchWord n w).draw = s.draw := rfl

@[simp] theorem andThen_next (s : State) (f : State → Answer) : andThen (.next s) f = f s := rfl

/-! ### Registers the parser's store and resynchronisation leave alone -/

@[simp] theorem RxState.accept_length (r : RxState) (b : Byte) (n : Nat) : (r.accept b n).length = r.length := rfl
@[simp] theorem RxState.accept_done (r : RxState) (b : Byte) (n : Nat) : (r.accept b n).done = r.done := rfl
@[simp] theorem RxState.accept_cursor (r : RxState) (b : Byte) (n : Nat) :
    (r.accept b n).cursor = BitVec.ofNat 6 n := rfl
@[simp] theorem RxState.accept_buf (r : RxState) (b : Byte) (n : Nat) :
    (r.accept b n).buf = r.buf.write r.cursor.toNat b := rfl
@[simp] theorem RxState.resync_cursor (r : RxState) : r.resync.cursor = 0#6 := rfl
@[simp] theorem RxState.resync_length (r : RxState) : r.resync.length = r.length := rfl
@[simp] theorem RxState.resync_done (r : RxState) : r.resync.done = r.done := rfl
@[simp] theorem RxState.resync_buf (r : RxState) : r.resync.buf = r.buf := rfl

end Sys2Proof.Machine
end

