-- ==== Sys2Proof/Laws/Memory.lean ====
section
/-!
SUPPORT. The basic laws of the RX buffer: a read after a write, and the canonical form every operation keeps.
-/

namespace Sys2Proof.Machine

theorem Memory.read_insert (m : Memory) (i j : Nat) (b : Byte) :
    (Memory.insert m i b).read j = if j = i then some b else m.read j := by
  induction m with
  | nil => rfl
  | cons e m ih =>
    obtain ⟨a, c⟩ := e
    by_cases hlt : i < a
    · simp [Memory.insert, hlt, Memory.read]
    · by_cases heq : i = a
      · subst heq
        by_cases hj : j = i <;> simp [Memory.insert, Memory.read, hj]
      · by_cases hj : j = i
        · subst hj
          simp [Memory.insert, hlt, heq, Memory.read, ih]
        · simp [Memory.insert, hlt, heq, Memory.read, ih, hj]

/-- What a write leaves in every cell (R33, R34). -/
theorem Memory.read_write (m : Memory) (i j : Nat) (b : Byte) :
    (Memory.write m i b).read j = if j = i ∧ i < 32 then some b else m.read j := by
  by_cases hi : i < 32
  · simp [Memory.write, bufSize, hi, Memory.read_insert]
  · simp [Memory.write, bufSize, hi]

theorem Memory.risesAbove_insert (m : Memory) (low i : Nat) (b : Byte) (hm : m.risesAbove low = true) (hi : low < i) :
    (Memory.insert m i b).risesAbove low = true := by
  induction m generalizing low with
  | nil => simp [Memory.insert, Memory.risesAbove, hi]
  | cons e m ih =>
    obtain ⟨a, c⟩ := e
    simp only [Memory.risesAbove, Bool.and_eq_true, decide_eq_true_eq] at hm
    by_cases hlt : i < a
    · simp [Memory.insert, hlt, Memory.risesAbove, hi, hm]
    · by_cases heq : i = a
      · simp [Memory.insert, heq, Memory.risesAbove, hm]
      · simp [Memory.insert, hlt, heq, Memory.risesAbove, hm, ih a hm.2 (by omega)]

theorem Memory.inBuffer_insert (m : Memory) (i : Nat) (b : Byte) (hm : m.inBuffer = true) (hi : i < bufSize) :
    (Memory.insert m i b).inBuffer = true := by
  induction m with
  | nil => simp [Memory.insert, Memory.inBuffer, hi]
  | cons e m ih =>
    obtain ⟨a, c⟩ := e
    simp only [Memory.inBuffer, Bool.and_eq_true, decide_eq_true_eq] at hm
    by_cases hlt : i < a
    · simp [Memory.insert, hlt, Memory.inBuffer, hi, hm]
    · by_cases heq : i = a
      · simp [Memory.insert, heq, Memory.inBuffer, hm]
      · simp [Memory.insert, hlt, heq, Memory.inBuffer, hm, ih hm.2]

theorem Memory.wf_insert (m : Memory) (i : Nat) (b : Byte) (hm : m.wf = true) (hi : i < bufSize) :
    (Memory.insert m i b).wf = true := by
  cases m with
  | nil => simp [Memory.insert, Memory.wf, Memory.risesAbove, Memory.inBuffer, hi]
  | cons e m =>
    obtain ⟨a, c⟩ := e
    simp only [Memory.wf, Memory.inBuffer, Bool.and_eq_true, decide_eq_true_eq] at hm
    by_cases hlt : i < a
    · simp [Memory.insert, hlt, Memory.wf, Memory.risesAbove, Memory.inBuffer, hi, hm]
    · by_cases heq : i = a
      · simp [Memory.insert, heq, Memory.wf, Memory.inBuffer, hm]
      · simp [Memory.insert, hlt, heq, Memory.wf, Memory.inBuffer, hm,
          Memory.risesAbove_insert m a i b hm.1 (by omega), Memory.inBuffer_insert m i b hm.2.2 hi]

/-- A write keeps the canonical form. -/
theorem Memory.wf_write (m : Memory) (i : Nat) (b : Byte) (hm : m.wf = true) : (Memory.write m i b).wf = true := by
  by_cases hi : i < bufSize
  · simpa [Memory.write, hi] using Memory.wf_insert m i b hm hi
  · simpa [Memory.write, hi] using hm

theorem RxState.empty_buf_wf : RxState.empty.buf.wf = true := rfl

theorem State.reset_buf_wf : State.reset.rx.buf.wf = true := rfl

/-- A cell depends on the buffer and the draw only. -/
theorem State.cell_congr (s t : State) (hb : t.rx.buf = s.rx.buf) (hd : t.draw = s.draw) (i : Nat) :
    t.cell i = s.cell i := by
  simp [State.cell, hb, hd]

/-- The cells after one write. -/
theorem State.cell_of_write (s t : State) (k : Nat) (b : Byte) (hb : t.rx.buf = s.rx.buf.write k b)
    (hd : t.draw = s.draw) (i : Nat) : t.cell i = if i = k ∧ i < 32 then b else s.cell i := by
  by_cases h : i = k ∧ k < 32
  · simp [State.cell, hb, Memory.read_write, h]
  · have h' : ¬ (i = k ∧ i < 32) := by rintro ⟨rfl, hk⟩; exact h ⟨rfl, hk⟩
    simp [State.cell, hb, hd, Memory.read_write, h, h']

theorem State.length_cells (s : State) (n : Nat) : (s.cells n).length = n := by simp [State.cells]

end Sys2Proof.Machine
end

