-- ==== Sys2Proof/Laws/Rx.lean ====
section
/-!
SUPPORT. What `RX.BYTE` can do, said once: the byte is rejected, or it is stored and the cursor moves on, or it is stored
and completes the frame.
-/

namespace Sys2Proof.Machine

/-- Whether a byte passes the check of its offset (R57). -/
def RxState.passes (r : RxState) (b : Byte) : Bool :=
  match r.cursor.toNat with
  | 0 => decide (b = 0x42#8)
  | 1 => decide (b = 0x4D#8)
  | 2 => decide (b = 0x00#8)
  | 3 => decide (b.toNat ≤ 32)
  | _ => true

/-- Whether a byte that passes is the last of its frame (R69, R70). -/
def RxState.completes (r : RxState) (b : Byte) : Bool :=
  match r.cursor.toNat with
  | 0 | 1 | 2 => false
  | 3 => decide (b.toNat = 0)
  | k => decide (r.length.toNat + 3 ≤ k)

/-- The declared length after a byte that passes (R69). -/
def RxState.nextLength (r : RxState) (b : Byte) : BitVec 6 :=
  if r.cursor.toNat = 3 then b.setWidth 6 else r.length

theorem RxState.resync_eq_self (r : RxState) (h : r.cursor.toNat = 0) : r.resync = r := by
  have : r.cursor = 0#6 := BitVec.eq_of_toNat_eq (by simpa using h)
  cases r; simp_all [RxState.resync]

/-- A rejected byte (R57, R113). -/
theorem RxState.byte_rejected (r : RxState) (b : Byte) (h : r.passes b = false) :
    r.byte b = ({ r with cursor := 0#6, done := false }, false) := by
  unfold RxState.passes at h
  unfold RxState.byte RxState.atOffset
  split at h
  · rename_i hk
    have hc : r.cursor = 0#6 := BitVec.eq_of_toNat_eq (by simpa using hk)
    simp_all [RxState.offset0, magic1]
  · rename_i hk; simp_all [RxState.offset1, magic2, RxState.resync]
  · rename_i hk; simp_all [RxState.offset2, RxState.resync]
  · rename_i hk; simp_all [RxState.offset3, maxLen, RxState.resync]
  · simp at h

/-- A byte that passes the check of its offset (R66 to R70). -/
theorem RxState.byte_passed (r : RxState) (b : Byte) (h : r.passes b = true) :
    r.byte b = ({ cursor := if r.completes b then 0#6 else BitVec.ofNat 6 (r.cursor.toNat + 1),
                  length := r.nextLength b, done := r.completes b,
                  buf := r.buf.write r.cursor.toNat b }, r.completes b) := by
  unfold RxState.passes at h
  unfold RxState.byte RxState.atOffset RxState.completes RxState.nextLength
  split at h
  · rename_i hk; simp_all [RxState.offset0, magic1, RxState.accept]
  · rename_i hk; simp_all [RxState.offset1, magic2, RxState.accept]
  · rename_i hk; simp_all [RxState.offset2, RxState.accept]
  · rename_i hk
    have h' : ¬ 32 < b.toNat := by simpa using h
    simp only [hk, RxState.offset3, maxLen, h', if_false]
    by_cases h0 : b.toNat = 0 <;> simp [h0, RxState.accept, hk]
  · rename_i h0 h1 h2 h3
    obtain ⟨k, hk⟩ : ∃ k, r.cursor.toNat = k + 4 := by
      refine ⟨r.cursor.toNat - 4, ?_⟩
      have a0 : r.cursor.toNat ≠ 0 := h0
      have a1 : r.cursor.toNat ≠ 1 := h1
      have a2 : r.cursor.toNat ≠ 2 := h2
      have a3 : r.cursor.toNat ≠ 3 := h3
      omega
    by_cases hc : r.length.toNat ≤ k + 1 <;>
      simp [hk, hc, RxState.offsetN, RxState.lastOffset, RxState.declared, RxState.accept]

end Sys2Proof.Machine
end

