-- ==== Sys2Proof/Laws/Tx.lean ====
section
/-!
SUPPORT. What one `TX.STEP` can do, said once (R93 to R98).
-/

namespace Sys2Proof.Machine

theorem TxState.attempt_idle (t : TxState) (a : TxAnswer) (h : t.cmd = .none) : t.attempt a = ⟨t, .idle, []⟩ := by
  simp [TxState.attempt, h]

theorem TxState.byteAt_seven (t : TxState) : t.byteAt 7 = none := rfl

theorem TxState.byteAt_isSome (t : TxState) (k : Nat) (h : k < 7) : ∃ b, t.byteAt k = some b := by
  refine ⟨t.frame[k]'(by simpa [TxState.frame, commandFrameOf] using h), ?_⟩
  simp [TxState.byteAt]

theorem TxState.attempt_sent (t : TxState) (a : TxAnswer) (h : t.cmd ≠ .none) (hc : t.cursor.toNat = 7) :
    t.attempt a = ⟨t, .complete, []⟩ := by
  simp [TxState.attempt, h, hc, TxState.byteAt_seven]

/-- An attempt with a byte to offer: the transport's answer decides. -/
theorem TxState.attempt_offered (t : TxState) (a : TxAnswer) (b : Byte) (h : t.cmd ≠ .none)
    (hb : t.byteAt t.cursor.toNat = some b) :
    t.attempt a = match a with
      | .accept => ⟨{ t with cursor := BitVec.ofNat 3 (t.cursor.toNat + 1) },
                    if t.cursor.toNat = 6 then .complete else .pending, [b]⟩
      | .wouldBlock => ⟨t, .pending, []⟩
      | .error e => ⟨t, .failed e, []⟩ := by
  cases a <;> simp [TxState.attempt, h, hb]

/-- No attempt changes a TX register but the cursor (R37). -/
theorem TxState.attempt_registers (t : TxState) (a : TxAnswer) :
    (t.attempt a).tx = { t with cursor := (t.attempt a).tx.cursor } := by
  unfold TxState.attempt
  split
  · rfl
  · split
    · rfl
    · cases a <;> rfl

end Sys2Proof.Machine
end

