-- ==== Sys2Proof/Laws/PerInstr.lean ====
section
/-!
SUPPORT. Statements for all instructions, one lemma per constructor.
-/

namespace Sys2Proof.Laws

/-- How many bytes an instruction's bits take: a control word of 11 bits two, of 23 bits three (R59, log 9), a query none, a
command frame seven (R45), a response frame of declared length `L` has `L + 4` (R53). -/
def encodedLength : Instr → Nat
  | .reset | .rxClear | .rxByte _ | .rxNop => 2
  | .rxValidate | .rxDecode => 0
  | .txClear | .txLoad _ _ | .txStepE _ | .txStepA | .txStepW => 3
  | .cmdSetMode _ | .cmdReadPassive _ | .cmdSetSleep _ => 7
  | .frameResp len _ => len.toNat + 4
  | .frameMeas _ _ _ _ => 32

/-- A well-formed instruction's bits have the length of its format. -/
def EncodedLength.Statement (i : Instr) : Prop := i.wellFormed = true → (encode i).bytes.length = encodedLength i

namespace EncodedLength

theorem reset : Statement .reset := fun _ => rfl
theorem rxClear : Statement .rxClear := fun _ => rfl
theorem rxByte (b : Byte) : Statement (.rxByte b) := fun _ => rfl
theorem rxNop : Statement .rxNop := fun _ => rfl
theorem rxValidate : Statement .rxValidate := fun _ => rfl
theorem rxDecode : Statement .rxDecode := fun _ => rfl
theorem txClear : Statement .txClear := fun _ => rfl
theorem txLoad (c : Command) (p : Half) : Statement (.txLoad c p) := fun _ => rfl
theorem txStepE (e : ErrCode) : Statement (.txStepE e) := fun _ => rfl
theorem txStepA : Statement .txStepA := fun _ => rfl
theorem txStepW : Statement .txStepW := fun _ => rfl
theorem cmdSetMode (p : Half) : Statement (.cmdSetMode p) := fun _ => rfl
theorem cmdReadPassive (p : Half) : Statement (.cmdReadPassive p) := fun _ => rfl
theorem cmdSetSleep (p : Half) : Statement (.cmdSetSleep p) := fun _ => rfl
theorem frameResp (len : Byte) (body : List Byte) : Statement (.frameResp len body) := by
  intro h
  simp only [Instr.wellFormed, Bool.and_eq_true, decide_eq_true_eq] at h
  simp [encode, responseFrame, encodedLength, h.1.2]
theorem frameMeas (d : SensorData) (r0 r1 : Byte) (ck : Half) : Statement (.frameMeas d r0 r1 ck) := fun _ => rfl

end EncodedLength

end Sys2Proof.Laws
end

