-- ==== Sys2Proof/Tests/Slice0.lean ====
section
/-!
SUPPORT. The model's own tests: well-formedness, decoding of words written out from spec/30_encoding.md, one step of each
row against spec/95_test_vectors.md, and for every statement with hypotheses a state and operands that meet them.
-/

namespace Sys2Proof.Tests

open Sys2Proof Sys2Proof.Machine

/-! ## Helpers -/

/-- The answer is a next state that passes `f`. -/
def answered (a : Answer) (f : State → Bool) : Bool :=
  match a with
  | .next s => f s
  | .fault _ => false
  | .refused _ => false

/-- A buffer holding `bs` from index `i` on. -/
def bufferFrom : Nat → List Byte → Memory
  | _, [] => []
  | i, b :: bs => (i, b) :: bufferFrom (i + 1) bs

/-- A state with the RX cursor at `k`, declared length `n`, and `bs` in the buffer. -/
def rxAt (k n : Nat) (bs : List Byte) : State :=
  { State.reset with rx := ⟨BitVec.ofNat 6 k, BitVec.ofNat 6 n, false, bufferFrom 0 bs⟩ }

/-- A state that holds a completed frame of declared length `n`, its bytes being `bs`. -/
def held (n : Nat) (bs : List Byte) : State :=
  { State.reset with rx := ⟨0#6, BitVec.ofNat 6 n, true, bufferFrom 0 bs⟩ }

/-- A state with `SetMode`, payload 1, in flight at cursor `k`; checksum `01 71` (V-TX-2). -/
def setModeAt (k : Nat) : State :=
  { State.reset with tx := ⟨.setMode, 0x00#8, 0x01#8, 0x01#8, 0x71#8, BitVec.ofNat 3 k⟩ }

/-- The frame `F` of spec/95_test_vectors.md, after its header. -/
def bodyF : List Byte :=
  [0x00#8, 0x0A#8, 0x00#8, 0x14#8, 0x00#8, 0x1E#8, 0x00#8, 0x0B#8, 0x00#8, 0x15#8, 0x00#8, 0x1F#8] ++
  [0x00#8, 0x01#8, 0x00#8, 0x02#8, 0x00#8, 0x03#8, 0x00#8, 0x04#8, 0x00#8, 0x05#8, 0x00#8, 0x06#8] ++
  [0x00#8, 0x00#8, 0x01#8, 0x3B#8]

/-- The frame `F`, 32 bytes. -/
def frameF : List Byte := [0x42#8, 0x4D#8, 0x00#8, 0x1C#8] ++ bodyF

/-- The record of `F` (S6). -/
def recordF : SensorData := ⟨10, 20, 30, 11, 21, 31, 1, 2, 3, 4, 5, 6⟩

/-- A clock cycle with every input 0. -/
def quiet : Signals := ⟨false, false, false, 0, false, false, 0, 0, false, false, 0⟩

/-! ## Well-formedness: each check refuses -/

theorem test_wf_length_above_32 : (Instr.frameResp 33#8 (List.replicate 33 0#8)).wellFormed = false := by decide
theorem test_wf_body_too_short : (Instr.frameResp 4#8 [0#8, 0#8, 0#8]).wellFormed = false := by decide
theorem test_wf_length_28 : (Instr.frameResp 28#8 (List.replicate 28 0#8)).wellFormed = false := by decide
theorem test_wf_length_32 : (Instr.frameResp 32#8 (List.replicate 32 0#8)).wellFormed = true := by decide

/-! ## Decoding: one word per row, written out from R59, R45 and R50, and what is rejected by which name -/

theorem test_decode_reset : decode ⟨.ctrlRx, [0b00000000#8, 0b00000100#8], 0⟩ = .ok .reset := by decide
theorem test_decode_reset_tx : decode ⟨.ctrlTx, [0xFF#8, 0xFF#8, 0b01111111#8], 0⟩ = .ok .reset := by decide
theorem test_decode_rxClear : decode ⟨.ctrlRx, [0b10101010#8, 0b00000011#8], 0⟩ = .ok .rxClear := by decide
theorem test_decode_rxByte : decode ⟨.ctrlRx, [0b01000010#8, 0b00000001#8], 0⟩ = .ok (.rxByte 0x42#8) := by decide
theorem test_decode_rxNop : decode ⟨.ctrlRx, [0b11111111#8, 0b00000000#8], 0⟩ = .ok .rxNop := by decide
theorem test_decode_rxValidate : decode ⟨.queryValidate, [], 0⟩ = .ok .rxValidate := by decide
theorem test_decode_rxDecode : decode ⟨.queryDecode, [], 0⟩ = .ok .rxDecode := by decide
theorem test_decode_txClear : decode ⟨.ctrlTx, [0x34#8, 0x12#8, 0b00111111#8], 0⟩ = .ok .txClear := by decide
theorem test_decode_txLoad :
    decode ⟨.ctrlTx, [0x34#8, 0x12#8, 0b00011111#8], 0⟩ = .ok (.txLoad .setSleep 0x1234#16) := by decide
theorem test_decode_txStepE : decode ⟨.ctrlTx, [0x00#8, 0x00#8, 0b00001111#8], 5⟩ = .ok (.txStepE 5) := by decide
theorem test_decode_txStepA : decode ⟨.ctrlTx, [0x00#8, 0x00#8, 0b00000111#8], 5⟩ = .ok .txStepA := by decide
theorem test_decode_txStepW : decode ⟨.ctrlTx, [0x00#8, 0x00#8, 0b00000011#8], 5⟩ = .ok .txStepW := by decide
/-- V-TX-6 -/
theorem test_decode_cmdSetMode :
    decode ⟨.txWire, [0x42#8, 0x4D#8, 0xE1#8, 0xAB#8, 0xCD#8, 0x02#8, 0xE8#8], 0⟩ = .ok (.cmdSetMode 0xABCD#16) := by
  decide
/-- V-TX-8 -/
theorem test_decode_cmdReadPassive :
    decode ⟨.txWire, [0x42#8, 0x4D#8, 0xE2#8, 0x01#8, 0x00#8, 0x01#8, 0x72#8], 0⟩ = .ok (.cmdReadPassive 0x0100#16) := by
  decide
/-- V-TX-7 -/
theorem test_decode_cmdSetSleep :
    decode ⟨.txWire, [0x42#8, 0x4D#8, 0xE4#8, 0xFF#8, 0xFF#8, 0x03#8, 0x71#8], 0⟩ = .ok (.cmdSetSleep 0xFFFF#16) := by
  decide
/-- V-RX-7 -/
theorem test_decode_frameResp :
    decode ⟨.rxWire, [0x42#8, 0x4D#8, 0x00#8, 0x04#8, 0xE1#8, 0x00#8, 0x01#8, 0x74#8], 0⟩ =
      .ok (.frameResp 4#8 [0xE1#8, 0x00#8, 0x01#8, 0x74#8]) := by decide
/-- S6 -/
theorem test_decode_frameMeas : decode ⟨.rxWire, frameF, 0⟩ = .ok (.frameMeas recordF 0#8 0#8 0x013B#16) := by decide

theorem test_reject_padding : decode ⟨.ctrlRx, [0x00#8, 0x08#8], 0⟩ = .error .padding := by decide
theorem test_reject_short : decode ⟨.ctrlTx, [0x00#8, 0x08#8], 0⟩ = .error .wrongLength := by decide
theorem test_reject_magic1 : decode ⟨.rxWire, [0x41#8, 0x4D#8, 0x00#8, 0x00#8], 0⟩ = .error .badMagic1 := by decide
theorem test_reject_magic2 : decode ⟨.rxWire, [0x42#8, 0x42#8, 0x00#8, 0x00#8], 0⟩ = .error .badMagic2 := by decide
theorem test_reject_lenHigh : decode ⟨.rxWire, [0x42#8, 0x4D#8, 0x01#8, 0x00#8], 0⟩ = .error .lenHighNotZero := by decide
theorem test_reject_len33 : decode ⟨.rxWire, [0x42#8, 0x4D#8, 0x00#8, 0x21#8], 0⟩ = .error .lenAbove32 := by decide
theorem test_reject_code :
    decode ⟨.txWire, [0x42#8, 0x4D#8, 0xE3#8, 0x00#8, 0x00#8, 0x01#8, 0x72#8], 0⟩ = .error .unknownCommand := by decide
theorem test_reject_checksum :
    decode ⟨.txWire, [0x42#8, 0x4D#8, 0xE1#8, 0x00#8, 0x01#8, 0x01#8, 0x70#8], 0⟩ = .error .badChecksum := by decide

/-- The table's numbering (log 10): bit 10 of `CTRL_RX`, bit 21 of `CTRL_TX`, and a frame's first byte most significant. -/
theorem test_table_words :
    decodeTableWord 16 0x400 = some .reset ∧ decodeTableWord 16 0x142 = some (.rxByte 0x42#8) ∧
    decodeTableWord 24 0x200000 = some .txClear ∧
    decodeTableWord 56 0x424DE100010171 = some (.cmdSetMode 1#16) ∧
    decodeTableWord 24 0x424D00 = some (.frameResp 0#8 []) := by decide

theorem test_step_runs_the_placed_word :
    answered (step (State.reset.withFetchWord 24 0x120001)) (fun t => t.tx == (setModeAt 0).tx) = true := by decide

/-! ## One step of each row -/

theorem test_reset_drops_the_command :
    answered (exec .reset (setModeAt 3)) (fun t => t.tx.cmd == .none && t.tx.cursor == 0#3 && t.tx.ckLo == 0#8) = true := by
  decide

/-- V-RX-16: the length stays. -/
theorem test_rxClear_mid_frame :
    answered (exec .rxClear (rxAt 17 28 (frameF.take 17)))
      (fun t => t.rx == ⟨0#6, 28#6, false, bufferFrom 0 (frameF.take 17)⟩) = true := by decide

/-- V-RX-5: 33 is rejected at offset 3, nothing is stored. -/
theorem test_rxByte_length_33 :
    answered (exec (.rxByte 0x21#8) (rxAt 3 28 [0x42#8, 0x4D#8, 0x00#8]))
      (fun t => t.rx == ⟨0#6, 28#6, false, bufferFrom 0 [0x42#8, 0x4D#8, 0x00#8]⟩) = true := by decide

/-- The example of R70: the byte at offset 31 of a frame of length 28 completes it. -/
theorem test_rxByte_last_byte :
    answered (exec (.rxByte 0x3B#8) (rxAt 31 28 (frameF.take 31)))
      (fun t => t.rx == ⟨0#6, 28#6, true, bufferFrom 0 frameF⟩ && t.results == [.byte true]) = true := by decide

theorem test_rxNop_keeps_done :
    answered (exec .rxNop (held 28 frameF)) (fun t => t == held 28 frameF) = true := by decide

/-- V-VAL-1 -/
theorem test_rxValidate_good :
    answered (exec .rxValidate (held 28 frameF)) (fun t => t.results == [.valid true]) = true := by decide

/-- V-VAL-4: byte 10 changed to `80`. -/
theorem test_rxValidate_corrupt :
    answered (exec .rxValidate (held 28 (frameF.set 10 0x80#8))) (fun t => t.results == [.valid false]) = true := by decide

/-- V-DEC-1 -/
theorem test_rxDecode_good :
    answered (exec .rxDecode (held 28 frameF)) (fun t => t.results == [.record recordF]) = true := by decide

/-- V-VAL-4: no validation, `pm10_atmos` is 32779. -/
theorem test_rxDecode_corrupt :
    answered (exec .rxDecode (held 28 (frameF.set 10 0x80#8)))
      (fun t => t.results == [.record { recordF with pm10Atmos := 32779#16 }]) = true := by decide

/-- V-TX-19 -/
theorem test_txClear_after_the_frame :
    answered (exec .txClear (setModeAt 7)) (fun t => t.tx == { (setModeAt 7).tx with cmd := .none } && !t.txDone) = true := by
  decide

/-- V-TX-2 -/
theorem test_txLoad_accepted :
    answered (exec (.txLoad .setMode 1#16) State.reset)
      (fun t => t.tx == (setModeAt 0).tx && t.results == [.load .accepted]) = true := by decide

/-- V-TX-18: the slot is not free until cleared. -/
theorem test_txLoad_refused_at_seven :
    answered (exec (.txLoad .readPassive 0#16) (setModeAt 7))
      (fun t => t.tx == (setModeAt 7).tx && t.results == [.load .refused]) = true := by decide

/-- V-TX-14 -/
theorem test_txStepE_passes_the_error :
    answered (exec (.txStepE 9) (setModeAt 0))
      (fun t => t.tx == (setModeAt 0).tx && t.txWire == [] && t.results == [.step (.failed 9)]) = true := by decide

/-- V-TX-16: the seventh byte. -/
theorem test_txStepA_seventh :
    answered (exec .txStepA (setModeAt 6))
      (fun t => t.tx.cursor == 7#3 && t.txWire == [0x71#8] && t.results == [.step .complete]) = true := by decide

/-- V-TX-17 -/
theorem test_txStepA_after_the_last :
    answered (exec .txStepA (setModeAt 7)) (fun t => t.txWire == [] && t.results == [.step .complete]) = true := by decide

/-- V-TX-13 -/
theorem test_txStepW_waits :
    answered (exec .txStepW (setModeAt 0))
      (fun t => t.tx == (setModeAt 0).tx && t.txWire == [] && t.results == [.step .pending]) = true := by decide

/-- V-TX-6 -/
theorem test_cmdSetMode_wire :
    answered (exec (.cmdSetMode 0xABCD#16) State.reset)
      (fun t => t.txWire == [0x42#8, 0x4D#8, 0xE1#8, 0xAB#8, 0xCD#8, 0x02#8, 0xE8#8] && t.txDone) = true := by decide

/-- V-TX-8 -/
theorem test_cmdReadPassive_wire :
    answered (exec (.cmdReadPassive 0x0100#16) State.reset)
      (fun t => t.txWire == [0x42#8, 0x4D#8, 0xE2#8, 0x01#8, 0x00#8, 0x01#8, 0x72#8]) = true := by decide

/-- V-TX-7 -/
theorem test_cmdSetSleep_wire :
    answered (exec (.cmdSetSleep 0xFFFF#16) State.reset)
      (fun t => t.txWire == [0x42#8, 0x4D#8, 0xE4#8, 0xFF#8, 0xFF#8, 0x03#8, 0x71#8]) = true := by decide

/-- V-RX-7 -/
theorem test_frameResp_valid :
    answered (exec (.frameResp 4#8 [0xE1#8, 0x00#8, 0x01#8, 0x74#8]) State.reset)
      (fun t => t.rx.done && t.results.drop 7 == [.byte true, .valid true]) = true := by decide

/-- V-RX-11 and V-VAL-7: length 0 completes at offset 3 and does not validate. -/
theorem test_frameResp_length_0 :
    answered (exec (.frameResp 0#8 []) State.reset)
      (fun t => t.results == [.byte false, .byte false, .byte false, .byte true, .valid false]) = true := by decide

/-- S6 -/
theorem test_frameMeas_record :
    answered (exec (.frameMeas recordF 0#8 0#8 0x013B#16) State.reset)
      (fun t => t.rx.buf == bufferFrom 0 frameF && t.results.drop 31 == [.byte true, .valid true, .record recordF]) = true := by
  decide

/-- R112: a clear drops the byte and the load of the same cycle. -/
theorem test_clock_clear_wins :
    answered (clockEdge { quiet with rxClear := true, rxValid := true, rxData := 0x42#8, txClear := true, txLoad := true,
                                     txCmdIn := 1#2 } (setModeAt 2))
      (fun t => t.rx.cursor == 0#6 && t.tx.cmd == .none && t.results == []) = true := by decide

/-- R24 in the state of S6 -/
theorem test_outputs_of_a_held_frame :
    (held 28 frameF).rxOk = true ∧ (held 28 frameF).rxFields = recordF ∧ (setModeAt 2).txData = 0xE1#8 := by decide

/-! ## Witnesses: every statement with hypotheses has a state and operands that meet them -/

theorem witness_EncodedInstructionDecodesBack :
    (Instr.frameMeas recordF 0#8 0#8 0x013B#16).wellFormed = true ∧ (Instr.frameResp 2#8 [0x00#8, 0x91#8]).wellFormed = true ∧
    (Instr.frameResp 32#8 (List.replicate 32 7#8)).wellFormed = true := by decide

theorem witness_DecodedInstructionIsWellFormed :
    decode ⟨.rxWire, [0x42#8, 0x4D#8, 0x00#8, 0x02#8, 0x00#8, 0x91#8], 0⟩ = .ok (.frameResp 2#8 [0x00#8, 0x91#8]) := by decide

theorem witness_WireFrameEncodesBackToItsBytes :
    decode ⟨.rxWire, [0x42#8, 0x4D#8, 0x00#8, 0x00#8], 3⟩ = .ok (.frameResp 0#8 []) ∧
    decode ⟨.txWire, [0x42#8, 0x4D#8, 0xE4#8, 0x00#8, 0x01#8, 0x01#8, 0x74#8], 0⟩ = .ok (.cmdSetSleep 1#16) := by decide

theorem witness_CommandChecksumNeverWraps : Command.setMode ≠ .none := by decide

theorem witness_ResetEmptiesBothSubBlocks : ({ quiet with rst := true } : Signals).rst = true := by decide

theorem witness_OffsetZeroTakesOnlyMagicOne :
    (rxAt 0 28 []).rx.cursor.toNat = 0 ∧ (0x42#8 : Byte) = 0x42#8 ∧ (0x4D#8 : Byte) ≠ 0x42#8 := by decide

theorem witness_OffsetOneTakesOnlyMagicTwo :
    (rxAt 1 28 [0x42#8]).rx.cursor.toNat = 1 ∧ (0x4D#8 : Byte) = 0x4D#8 ∧ (0x42#8 : Byte) ≠ 0x4D#8 := by decide

theorem witness_OffsetTwoTakesOnlyZero :
    (rxAt 2 28 [0x42#8, 0x4D#8]).rx.cursor.toNat = 2 ∧ (0x00#8 : Byte) = 0x00#8 ∧ (0x01#8 : Byte) ≠ 0x00#8 := by decide

/-- Both clauses, at 33, 32 and 0. -/
theorem witness_OffsetThreeTakesTheLength :
    (rxAt 3 28 [0x42#8, 0x4D#8, 0x00#8]).rx.cursor.toNat = 3 ∧ 32 < (33#8 : Byte).toNat ∧ (32#8 : Byte).toNat ≤ 32 ∧
    (0#8 : Byte).toNat ≤ 32 := by decide

theorem witness_OffsetFourOnBuffersVerbatim :
    (4 ≤ (rxAt 4 1 []).rx.cursor.toNat ∧ (rxAt 4 1 []).rx.cursor.toNat ≤ 35) ∧
    4 ≤ (rxAt 35 32 []).rx.cursor.toNat ∧ (rxAt 35 32 []).rx.cursor.toNat ≤ 35 := by decide

theorem witness_DoneIsTheLatestByteResult :
    ∃ i : Instr, ∃ s t : State, (∀ b, i ≠ .rxByte b) ∧ (∀ n bs, i ≠ .frameResp n bs) ∧
      (∀ d r0 r1 ck, i ≠ .frameMeas d r0 r1 ck) ∧ i ≠ .rxClear ∧ i ≠ .reset ∧ exec i s = .next t :=
  ⟨.rxValidate, held 28 frameF, _, nofun, nofun, nofun, nofun, nofun, rfl⟩

theorem witness_DoneIsTheLatestByteResult_clear :
    ∃ t u, exec .rxClear (held 28 frameF) = .next t ∧ exec .reset (held 28 frameF) = .next u := ⟨_, _, rfl, rfl⟩

theorem witness_RxByteTouchesOneCell :
    (4 : Nat) ≠ (rxAt 3 28 []).rx.cursor.toNat ∧ (rxAt 5 28 []).rx.cursor.toNat ≠ 3 := by decide

theorem witness_NoCellBeyondTheBuffer :
    (32 ≤ (rxAt 32 29 []).rx.cursor.toNat ∧ (rxAt 32 29 []).rx.cursor.toNat ≤ 35) ∧
    32 ≤ (rxAt 35 32 []).rx.cursor.toNat ∧ (rxAt 35 32 []).rx.cursor.toNat ≤ 35 := by decide

/-- The four offsets of R57. -/
theorem witness_RejectedByteOnlyResynchronises :
    ((rxAt 0 0 []).rx.cursor.toNat = 0 ∧ (0x13#8 : Byte) ≠ 0x42#8) ∧
    ((rxAt 1 0 []).rx.cursor.toNat = 1 ∧ (0x42#8 : Byte) ≠ 0x4D#8) ∧
    ((rxAt 2 0 []).rx.cursor.toNat = 2 ∧ (0x42#8 : Byte) ≠ 0x00#8) ∧
    (rxAt 3 0 []).rx.cursor.toNat = 3 ∧ 33 ≤ (33#8 : Byte).toNat := by decide

/-- V-RX-1 -/
theorem witness_GarbageNeverCompletesAFrame :
    State.reset.rx.cursor = 0#6 ∧ ∀ b ∈ [0x00#8, 0xFF#8, 0x4D#8, 0x13#8], b ≠ 0x42#8 := by decide

/-- V-RX-19: both forms of the last hypothesis. -/
theorem witness_HeldFrameSurvivesUntilTheNextLength :
    ((held 28 frameF).cell 0 = 0x42#8 ∧ (held 28 frameF).cell 1 = 0x4D#8 ∧ (held 28 frameF).cell 2 = 0x00#8 ∧
      (held 28 frameF).rx.cursor.toNat ≤ 2) ∧
    (rxAt 3 28 frameF).cell 0 = 0x42#8 ∧ (rxAt 3 28 frameF).cell 1 = 0x4D#8 ∧ (rxAt 3 28 frameF).cell 2 = 0x00#8 ∧
      (rxAt 3 28 frameF).rx.cursor.toNat = 3 ∧ 32 < (33#8 : Byte).toNat := by decide

theorem witness_ValidateComparesTheSum :
    (held 28 frameF).rx.length.toNat ≤ 28 ∧ 28 < (held 29 frameF).rx.length.toNat := by decide

/-- V-RX-11 and V-RX-12 -/
theorem witness_LengthZeroOrOneNeverValidates :
    ((held 0 [0x42#8, 0x4D#8, 0x00#8, 0x00#8]).RxInv ∧ (held 0 [0x42#8, 0x4D#8, 0x00#8, 0x00#8]).rx.done = true ∧
      (held 0 [0x42#8, 0x4D#8, 0x00#8, 0x00#8]).rx.length.toNat ≤ 1) ∧
    ((held 1 [0x42#8, 0x4D#8, 0x00#8, 0x01#8, 0x8F#8]).RxInv ∧
      (held 1 [0x42#8, 0x4D#8, 0x00#8, 0x01#8, 0x8F#8]).rx.done = true ∧
      (held 1 [0x42#8, 0x4D#8, 0x00#8, 0x01#8, 0x8F#8]).rx.length.toNat ≤ 1) ∧
    State.reset.rx.cursor = 0#6 :=
  ⟨⟨by constructor <;> decide, by decide, by decide⟩, ⟨by constructor <;> decide, by decide, by decide⟩, by decide⟩

/-- The smallest frame that validates, and the same with its last byte changed; and a checksum high byte above `0x1D`. -/
theorem witness_SingleByteCorruptionIsDetected :
    ∃ (s t : State) (k : Nat), 2 ≤ s.rx.length.toNat ∧ s.rx.length.toNat ≤ 28 ∧ t.rx.length = s.rx.length ∧
      k ≤ s.rx.length.toNat + 3 ∧ t.cell k ≠ s.cell k ∧
      (∀ i, i ≠ k → i ≤ s.rx.length.toNat + 3 → t.cell i = s.cell i) ∧ s.validate = true := by
  refine ⟨held 2 [0x42#8, 0x4D#8, 0x00#8, 0x02#8, 0x00#8, 0x91#8], held 2 [0x42#8, 0x4D#8, 0x00#8, 0x02#8, 0x00#8, 0x92#8], 5,
    by decide, by decide, by decide, by decide, by decide, ?_, by decide⟩
  intro i hi hn
  have h : i ≤ 5 := hn
  interval_cases i <;> first | rfl | exact absurd rfl hi

theorem witness_SingleByteCorruptionIsDetected_high :
    (held 2 [0x42#8, 0x4D#8, 0x00#8, 0x02#8, 0x1E#8, 0x91#8]).rx.length.toNat ≤ 28 ∧
    0x1D < ((held 2 [0x42#8, 0x4D#8, 0x00#8, 0x02#8, 0x1E#8, 0x91#8]).cell
      ((held 2 [0x42#8, 0x4D#8, 0x00#8, 0x02#8, 0x1E#8, 0x91#8]).rx.length.toNat + 2)).toNat := by decide

theorem witness_DecodeSeesOnlyBytesFourToTwentySeven :
    ∃ s t : State, t ≠ s ∧ ∀ i, 4 ≤ i → i ≤ 27 → t.cell i = s.cell i :=
  ⟨held 28 frameF, rxAt 9 5 frameF, by decide, fun _ _ _ => rfl⟩

theorem witness_FrameRowsAreParsedByteByByte :
    (∃ len body, Instr.frameResp 0#8 [] = .frameResp len body) ∧
    ∃ d r0 r1 ck, Instr.frameMeas recordF 0#8 0#8 0x013B#16 = .frameMeas d r0 r1 ck := ⟨⟨_, _, rfl⟩, _, _, _, _, rfl⟩

/-- V-RX-2's garbage, then V-RX-7's frame. -/
theorem witness_WellFormedFrameIsReceived :
    State.reset.rx.cursor = 0#6 ∧ (∀ b ∈ [0x00#8, 0xFF#8, 0x4D#8, 0x13#8], b ≠ 0x42#8) ∧ (4#8 : Byte).toNat ≤ 28 ∧
    ([0xE1#8, 0x00#8] : List Byte).length + 2 = (4#8 : Byte).toNat ∧
    256 * (0x01#8 : Byte).toNat + (0x74#8 : Byte).toNat =
      0x42 + 0x4D + (4#8 : Byte).toNat + (([0xE1#8, 0x00#8] : List Byte).map BitVec.toNat).sum := by decide

/-- Lengths 2 and 28 for the first clause, V-RX-11 and V-RX-12 for the second. -/
theorem witness_ResponseFrameRowReportsItsChecksum :
    State.reset.rx.cursor = 0#6 ∧ (2#8 : Byte).toNat ≤ 28 ∧ ([] : List Byte).length + 2 = (2#8 : Byte).toNat ∧
    (28#8 : Byte).toNat ≤ 28 ∧ (List.replicate 26 0#8).length + 2 = (28#8 : Byte).toNat ∧
    (0#8 : Byte).toNat ≤ 1 ∧ ([] : List Byte).length = (0#8 : Byte).toNat ∧
    (1#8 : Byte).toNat ≤ 1 ∧ ([0x8F#8] : List Byte).length = (1#8 : Byte).toNat := by decide

theorem witness_MeasurementRoundTrip :
    State.reset.rx.cursor = 0#6 ∧
    (0x013B#16 : Half).toNat = (((measurementFrame recordF 0#8 0#8 0x013B#16).take 30).map BitVec.toNat).sum := by decide

/-- V-RX-13 and V-RX-14: lengths 32 and 29. -/
theorem witness_FrameThatDoesNotFitNeverValidates :
    State.reset.rx.cursor = 0#6 ∧ 29 ≤ (29#8 : Byte).toNat ∧ (29#8 : Byte).toNat ≤ 32 ∧
    (List.replicate 29 0#8).length = (29#8 : Byte).toNat ∧ (32#8 : Byte).toNat ≤ 32 ∧
    (List.replicate 32 0#8).length = (32#8 : Byte).toNat := by decide

/-- V-RX-9 -/
theorem witness_StrayMagicLosesTheFrame :
    State.reset.rx.cursor = 0#6 ∧ (28#8 : Byte) ≠ 0x42#8 ∧ ∀ b ∈ bodyF, b ≠ 0x42#8 := by decide

/-- Both clauses: a busy slot, the command `None`, and a free slot. -/
theorem witness_LoadFillsAFreeSlotOnly :
    (setModeAt 0).tx.cmd ≠ .none ∧ (Command.none = .none) ∧ State.reset.tx.cmd = .none ∧ Command.setSleep ≠ .none := by decide

theorem witness_TxByteTable : (setModeAt 0).tx.cmd ≠ .none := by decide

/-- For the three statements about a step with a byte to offer, at both ends of the cursor's range. -/
theorem witness_AcceptedStepSendsTheNextByte :
    ((setModeAt 0).tx.cmd ≠ .none ∧ (setModeAt 0).tx.cursor.toNat < 7) ∧
    (setModeAt 6).tx.cmd ≠ .none ∧ (setModeAt 6).tx.cursor.toNat < 7 := by decide

theorem witness_BlockedStepChangesNothing : (setModeAt 0).tx.cmd ≠ .none ∧ (setModeAt 0).tx.cursor.toNat < 7 := by decide

theorem witness_FailedStepPassesTheErrorThrough : (setModeAt 6).tx.cmd ≠ .none ∧ (setModeAt 6).tx.cursor.toNat < 7 := by decide

theorem witness_StepWithoutCommandIsIdle : State.reset.tx.cmd = .none := by decide

theorem witness_StepAfterTheLastByteIsComplete :
    (setModeAt 7).tx.cmd ≠ .none ∧ (setModeAt 7).tx.cursor.toNat = 7 := by decide

theorem witness_WireCarriesTheFrameOnce : State.reset.tx.cmd = .none ∧ Command.setMode ≠ .none := by decide

/-- The three rows, with a free slot and with a busy one. -/
theorem witness_CommandRowsSendTheirFrame :
    (Instr.cmdSetMode 1#16 = .cmdSetMode 1#16 ∧ Command.setMode = .setMode) ∧
    (Instr.cmdReadPassive 0#16 = .cmdReadPassive 0#16 ∧ Command.readPassive = .readPassive) ∧
    (Instr.cmdSetSleep 1#16 = .cmdSetSleep 1#16 ∧ Command.setSleep = .setSleep) ∧
    State.reset.tx.cmd = .none ∧ (setModeAt 7).tx.cmd ≠ .none := by decide

/-- A state that meets the invariant, holding a frame and a command, with a byte pending. -/
theorem witness_EveryStepKeepsTheInvariant :
    ∃ s t : State, s.Inv ∧ step s = .next t ∧ t ≠ s :=
  ⟨{ held 2 [0x42#8, 0x4D#8, 0x00#8, 0x02#8, 0x00#8, 0x91#8] with
      tx := (setModeAt 3).tx, inputs := [.op ⟨.ctrlRx, [0x42#8, 0x01#8], 0⟩] }, _,
    ⟨by constructor <;> decide, by intro _; decide, by decide⟩, rfl, by decide⟩

theorem witness_StepRunsTheDecodedInstruction :
    ({ State.reset with inputs := [.op ⟨.ctrlRx, [0x42#8, 0x01#8], 0⟩] } : State).inputs =
      .op ⟨.ctrlRx, [0x42#8, 0x01#8], 0⟩ :: [] ∧ decode ⟨.ctrlRx, [0x42#8, 0x01#8], 0⟩ = .ok (.rxByte 0x42#8) := by decide

theorem witness_BlockNeverActsOnItsOwn : (setModeAt 3).inputs = [] := by decide

/-- Both clauses: two bytes of a false start on the RX wire, and a command frame with an unknown code. -/
theorem witness_RxWireTakesEveryByte :
    (({ State.reset with inputs := [.op ⟨.rxWire, [0x42#8, 0x13#8], 0⟩] } : State).inputs =
      .op ⟨.rxWire, [0x42#8, 0x13#8], 0⟩ :: [] ∧ decode ⟨.rxWire, [0x42#8, 0x13#8], 0⟩ = .error .wrongLength) ∧
    ({ State.reset with inputs := [.op ⟨.txWire, [0x42#8], 0⟩] } : State).inputs = .op ⟨.txWire, [0x42#8], 0⟩ :: [] ∧
    decode ⟨.txWire, [0x42#8], 0⟩ = .error .wrongLength ∧ (⟨.txWire, [0x42#8], 0⟩ : Packet).channel ≠ .rxWire := by decide

theorem witness_RxAndTxOperationsCommute : isRxOperation (.rxByte 0x42#8) = true ∧ isTxOperation .txStepA = true := by decide

theorem witness_RxOperationsIgnoreTheTxState :
    isRxOperation (.frameResp 0#8 []) = true ∧ (setModeAt 3).rx = State.reset.rx ∧ (setModeAt 3).draw = State.reset.draw := by
  decide

theorem witness_TxOperationsIgnoreTheRxState :
    isTxOperation (.cmdSetMode 1#16) = true ∧ (held 28 frameF).tx = State.reset.tx := by decide

/-- Both clauses. -/
theorem witness_ClockEdgeFollowsThePriorities :
    (∃ s : State, s.inputs = .clock { quiet with rst := true } :: [] ∧ ({ quiet with rst := true } : Signals).rst = true) ∧
    ∃ s : State, s.inputs = .clock quiet :: [] ∧ quiet.rst = false :=
  ⟨⟨{ State.reset with inputs := [.clock { quiet with rst := true }] }, rfl, rfl⟩,
   ⟨{ State.reset with inputs := [.clock quiet] }, rfl, rfl⟩⟩

theorem witness_TxFailIsTheFailedResult :
    ({ quiet with txErr := true } : Signals).rst = false ∧ ({ quiet with txErr := true } : Signals).txClear = false ∧
    ({ quiet with txErr := true } : Signals).txLoad = false ∧ (setModeAt 2).txFail { quiet with txErr := true } = true := by
  decide

/-- P1's answers, in part: the call completes although the transport blocks and fails to take a byte once. -/
theorem witness_IntoActiveSendsTheSetModeFrame :
    State.reset.tx.cmd = .none ∧ ∃ t r, hostCall .intoActive (.wouldBlock :: List.replicate 7 .accept)
      [0x42#8, 0x4D#8, 0x00#8, 0x04#8, 0xE1#8, 0x00#8, 0x01#8, 0x74#8] State.reset = (t, .complete r) :=
  ⟨by decide, _, _, rfl⟩

/-- P2, without its garbage: it completes; and a frame whose last byte has not come is pending. -/
theorem witness_ActiveReadReturnsOnlyValidatedRecords :
    (∃ t r, hostCall .readActive [] frameF State.reset = (t, .complete r)) ∧
    ∃ t, hostCall .readActive [] [0x42#8, 0x4D#8, 0x00#8] State.reset = (t, .pending) := ⟨⟨_, _, rfl⟩, _, rfl⟩

end Sys2Proof.Tests
end

section
/-!
PROOFS. The two pure queries as `exec` runs them, and each status output by its definition in R24.
-/

namespace Sys2Proof.Machine

/-! ### The queries -/

@[simp] theorem exec_rxValidate (s : State) : exec .rxValidate s = .next s.askValidate := rfl

@[simp] theorem exec_rxDecode (s : State) : exec .rxDecode s = .next s.askDecode := rfl

/-- The value `RX.VALIDATE` returns can be read off its answer: the last result determines it (R80). -/
theorem exec_rxValidate_returns_iff (s : State) (v : Bool) :
    exec .rxValidate s = .next { s with results := s.results ++ [.valid v] } ↔ s.validate = v := by
  constructor
  · intro h
    have hstate : s.askValidate = { s with results := s.results ++ [.valid v] } := Host.Outcome.next.inj h
    have hresults : s.results ++ [.valid s.validate] = s.results ++ [.valid v] := congrArg State.results hstate
    simpa using hresults
  · rintro rfl
    rfl

/-! ### The status outputs -/

theorem State.rxOk_iff (s : State) : s.rxOk = true ↔ s.rx.done = true ∧ s.validate = true := by
  simp [State.rxOk]

theorem State.txBusy_iff (s : State) : s.txBusy = true ↔ s.tx.cmd ≠ .none := by
  simp [State.txBusy]

theorem State.txValid_iff (s : State) : s.txValid = true ↔ s.tx.cmd ≠ .none ∧ s.tx.cursor.toNat < 7 := by
  simp [State.txValid]

theorem State.txDone_iff (s : State) : s.txDone = true ↔ s.tx.cmd ≠ .none ∧ s.tx.cursor.toNat = 7 := by
  simp [State.txDone]

/-- While a byte is offered, `tx_data` is the frame's byte at the cursor: the cursor is below 7, so there is one. -/
theorem State.byteAt_cursor_of_txValid (s : State) (h : s.txValid = true) :
    s.tx.byteAt s.tx.cursor.toNat = some s.txData := by
  obtain ⟨-, hcursor⟩ := s.txValid_iff.mp h
  obtain ⟨b, hb⟩ := s.tx.byteAt_isSome _ hcursor
  simp [State.txData, h, hb]

/-- Settles O55: each output of R24 by its own lemma; the queries' values by what `exec` answers for them. -/
theorem statusOutputsFollowTheState : Obligations.StatusOutputsFollowTheState := by
  intro s
  have hrxOk : s.rxOk = true ↔ s.rx.done = true ∧
      exec .rxValidate s = .next { s with results := s.results ++ [.valid true] } := by
    rw [exec_rxValidate_returns_iff, State.rxOk_iff]
  exact ⟨rfl, hrxOk, exec_rxDecode s, s.txBusy_iff, s.txValid_iff, s.byteAt_cursor_of_txValid, s.txDone_iff⟩

end Sys2Proof.Machine
end

section
/-!
PROOFS. The RX buffer's upper end (spec/20_memory.md R34): what `RX.BYTE` does at an offset that has no cell.
-/

namespace Sys2Proof.Machine

@[simp] theorem exec_rxByte (s : State) (b : Byte) : exec (.rxByte b) s = .next (s.rxByte b) := rfl

/-- A write at or past the end of the buffer does not happen (R34). -/
theorem Memory.write_of_bufSize_le (m : Memory) (i : Nat) (b : Byte) (hi : bufSize ≤ i) : m.write i b = m :=
  if_neg (Nat.not_lt.mpr hi)

/-- From offset 4 on every byte is accepted (R70). -/
theorem RxState.passes_of_four_le (r : RxState) (b : Byte) (h : 4 ≤ r.cursor.toNat) : r.passes b = true := by
  unfold RxState.passes
  split
  case h_5 => rfl
  all_goals omega

/-- An accepted byte is counted: it completes the frame and restarts the cursor, or moves the cursor on by one. The bound
keeps the six-bit cursor from wrapping (log 12). -/
theorem RxState.byte_passed_counts (r : RxState) (b : Byte) (hpass : r.passes b = true) (hcur : r.cursor.toNat < 63) :
    (r.byte b).1.cursor.toNat = r.cursor.toNat + 1 ∨ ((r.byte b).1.cursor.toNat = 0 ∧ (r.byte b).1.done = true) := by
  rw [r.byte_passed b hpass]
  cases r.completes b with
  | true => exact .inr ⟨rfl, rfl⟩
  | false => exact .inl (Nat.mod_eq_of_lt (by omega : r.cursor.toNat + 1 < 2 ^ 6))

/-- Settles O18: at offsets 32 to 35 the byte passes, so it is counted, and its write is past the end of the buffer. -/
theorem noCellBeyondTheBuffer : Obligations.NoCellBeyondTheBuffer := by
  intro s b hlow hhigh
  have hpass : s.rx.passes b = true := s.rx.passes_of_four_le b (by omega)
  have hbuf : (s.rx.byte b).1.buf = s.rx.buf := by
    rw [s.rx.byte_passed b hpass]
    exact Memory.write_of_bufSize_le s.rx.buf s.rx.cursor.toNat b hlow
  exact ⟨s.rxByte b, exec_rxByte s b, hbuf, s.rx.byte_passed_counts b hpass (by omega)⟩

end Sys2Proof.Machine
end

section
/-!
PROOFS. What `RX.BYTE` does at each offset (spec/40_rx_parser.md R66 to R70): which bytes an offset accepts, which byte is a
frame's last, and the state after an accepted and after a rejected byte.
-/

namespace Sys2Proof.Machine

/-! ### The check of each offset -/

theorem RxState.passes_offset0 (r : RxState) (b : Byte) (h : r.cursor.toNat = 0) : r.passes b = decide (b = 0x42#8) := by
  simp [RxState.passes, h]

theorem RxState.passes_offset1 (r : RxState) (b : Byte) (h : r.cursor.toNat = 1) : r.passes b = decide (b = 0x4D#8) := by
  simp [RxState.passes, h]

theorem RxState.passes_offset2 (r : RxState) (b : Byte) (h : r.cursor.toNat = 2) : r.passes b = decide (b = 0x00#8) := by
  simp [RxState.passes, h]

theorem RxState.passes_offset3 (r : RxState) (b : Byte) (h : r.cursor.toNat = 3) : r.passes b = decide (b.toNat ≤ 32) := by
  simp [RxState.passes, h]

/-! ### Which byte is a frame's last -/

theorem RxState.completes_of_lt_three (r : RxState) (b : Byte) (h : r.cursor.toNat < 3) : r.completes b = false := by
  obtain hk | hk | hk : r.cursor.toNat = 0 ∨ r.cursor.toNat = 1 ∨ r.cursor.toNat = 2 := by omega
  all_goals simp [RxState.completes, hk]

theorem RxState.completes_offset3 (r : RxState) (b : Byte) (h : r.cursor.toNat = 3) :
    r.completes b = decide (b.toNat = 0) := by
  simp [RxState.completes, h]

theorem RxState.completes_of_four_le (r : RxState) (b : Byte) (h : 4 ≤ r.cursor.toNat) :
    r.completes b = decide (r.length.toNat + 3 ≤ r.cursor.toNat) := by
  unfold RxState.completes
  split
  case h_5 => rfl
  all_goals omega

/-- A frame's last byte is a length 0 at offset 3, or a byte at offset `L + 3` or beyond (R69, R70). -/
theorem RxState.completes_iff (r : RxState) (b : Byte) :
    r.completes b = true ↔ (r.cursor.toNat = 3 ∧ b.toNat = 0) ∨
      (4 ≤ r.cursor.toNat ∧ r.length.toNat + 3 ≤ r.cursor.toNat) := by
  rcases Nat.lt_trichotomy r.cursor.toNat 3 with h | h | h
  · simp only [r.completes_of_lt_three b h, Bool.false_eq_true, false_iff]
    omega
  · simp [r.completes_offset3 b h, h]
  · rw [r.completes_of_four_le b h, decide_eq_true_iff]
    omega

/-- A byte that completes a frame is never one its offset rejects. -/
theorem RxState.passes_of_completes (r : RxState) (b : Byte) (h : r.completes b = true) : r.passes b = true := by
  obtain ⟨hcur, hzero⟩ | ⟨hcur, -⟩ := (r.completes_iff b).mp h
  · simp [r.passes_offset3 b hcur, hzero]
  · exact r.passes_of_four_le b hcur

/-- The result of `RX.BYTE` is true exactly on a frame's last byte, whether or not the byte is accepted (R71). -/
theorem RxState.byte_result (r : RxState) (b : Byte) : (r.byte b).2 = r.completes b := by
  cases hpass : r.passes b with
  | true => rw [r.byte_passed b hpass]
  | false =>
    have hnot : r.completes b ≠ true := fun h => by simp [r.passes_of_completes b h] at hpass
    rw [r.byte_rejected b hpass, Bool.eq_false_of_not_eq_true hnot]

@[simp] theorem RxState.byte_done (r : RxState) (b : Byte) : (r.byte b).1.done = (r.byte b).2 := rfl

/-! ### A rejected byte -/

/-- A byte its offset rejects only resynchronises the parser (R57, R113). -/
theorem exec_rxByte_rejected (s : State) (b : Byte) (h : s.rx.passes b = false) :
    exec (.rxByte b) s = .next { s with rx := { s.rx with cursor := 0#6, done := false },
                                        results := s.results ++ [.byte false] } := by
  simp [State.rxByte, State.answer, s.rx.byte_rejected b h]

/-! ### An accepted byte -/

theorem State.rxByte_length_of_passes (s : State) (b : Byte) (h : s.rx.passes b = true) :
    (s.rxByte b).rx.length = s.rx.nextLength b := by
  simp [s.rx.byte_passed b h]

/-- The cursor restarts on a frame's last byte and moves on by one otherwise; below 63 the six bits do not wrap (log 12). -/
theorem State.rxByte_cursor_of_passes (s : State) (b : Byte) (h : s.rx.passes b = true) (hcur : s.rx.cursor.toNat < 63) :
    (s.rxByte b).rx.cursor.toNat = if s.rx.completes b = true then 0 else s.rx.cursor.toNat + 1 := by
  rw [State.rxByte_rx, s.rx.byte_passed b h]
  split
  · rfl
  · exact Nat.mod_eq_of_lt (by omega : s.rx.cursor.toNat + 1 < 2 ^ 6)

theorem State.rxByte_done_eq_completes (s : State) (b : Byte) : (s.rxByte b).rx.done = s.rx.completes b :=
  s.rx.byte_result b

theorem State.rxByte_results_eq_completes (s : State) (b : Byte) :
    (s.rxByte b).results = s.results ++ [.byte (s.rx.completes b)] := by
  rw [State.rxByte_results, s.rx.byte_result b]

/-- An accepted byte goes to the cell at the cursor, if there is one (R33, R34). -/
theorem State.cell_rxByte_of_passes (s : State) (b : Byte) (h : s.rx.passes b = true) (i : Nat) :
    (s.rxByte b).cell i = if i = s.rx.cursor.toNat ∧ i < 32 then b else s.cell i :=
  State.cell_of_write s (s.rxByte b) s.rx.cursor.toNat b (by simp [s.rx.byte_passed b h]) rfl i

/-- While the cursor stands on a cell of the buffer, an accepted byte is always stored. -/
theorem State.cell_rxByte_of_passes_of_cursor_lt (s : State) (b : Byte) (h : s.rx.passes b = true)
    (hcur : s.rx.cursor.toNat < 32) (i : Nat) :
    (s.rxByte b).cell i = if i = s.rx.cursor.toNat then b else s.cell i := by
  have hstored : i = s.rx.cursor.toNat ∧ i < 32 ↔ i = s.rx.cursor.toNat := by omega
  simp only [s.cell_rxByte_of_passes b h i, hstored]

/-- A header byte accepted before the length field (offsets 0 to 2) is stored and moves the cursor on (R66 to R68). -/
theorem exec_rxByte_header_passed (s : State) (b : Byte) (k : Nat) (hk : s.rx.cursor.toNat = k) (hlt : k < 3)
    (hpass : s.rx.passes b = true) :
    ∃ t, exec (.rxByte b) s = .next t ∧
      t.rx.cursor.toNat = k + 1 ∧ t.rx.length = s.rx.length ∧ t.rx.done = false ∧
      (∀ i, t.cell i = if i = k then b else s.cell i) ∧
      t.tx = s.tx ∧ t.txWire = s.txWire ∧ t.inputs = s.inputs ∧ t.draw = s.draw ∧
      t.results = s.results ++ [.byte false] := by
  subst hk
  have hgoes_on : s.rx.completes b = false := s.rx.completes_of_lt_three b hlt
  refine ⟨s.rxByte b, rfl, ?cursor, ?length, ?done, ?cells, rfl, rfl, rfl, rfl, ?results⟩
  case cursor => simp only [s.rxByte_cursor_of_passes b hpass (by omega), hgoes_on, Bool.false_eq_true, if_false]
  case length => rw [s.rxByte_length_of_passes b hpass, RxState.nextLength, if_neg hlt.ne]
  case done => rw [s.rxByte_done_eq_completes, hgoes_on]
  case cells => exact s.cell_rxByte_of_passes_of_cursor_lt b hpass (by omega)
  case results => rw [s.rxByte_results_eq_completes, hgoes_on]

/-! ### The obligations, offset by offset -/

/-- Settles O14: the check of offset 3 splits at 32, and an accepted length of at most 32 survives the six-bit register. -/
theorem offsetThreeTakesTheLength : Obligations.OffsetThreeTakesTheLength := by
  intro s b hcur
  have hlast : s.rx.completes b = decide (b.toNat = 0) := s.rx.completes_offset3 b hcur
  refine ⟨fun hbig => exec_rxByte_rejected s b ?rejected, fun hle => ?accepted⟩
  case rejected => simp [s.rx.passes_offset3 b hcur, hbig]
  case accepted =>
    have hpass : s.rx.passes b = true := by simp [s.rx.passes_offset3 b hcur, hle]
    refine ⟨s.rxByte b, rfl, ?length, ?cursor, ?done, ?cells, rfl, rfl, rfl, rfl, ?results⟩
    case length =>
      rw [s.rxByte_length_of_passes b hpass, RxState.nextLength, if_pos hcur, BitVec.toNat_setWidth]
      exact Nat.mod_eq_of_lt (by omega)
    case cursor => simp only [s.rxByte_cursor_of_passes b hpass (by omega), hlast, hcur, decide_eq_true_eq]
    case done => rw [s.rxByte_done_eq_completes, hlast]
    case cells => simpa [hcur] using s.cell_rxByte_of_passes_of_cursor_lt b hpass (by omega)
    case results => rw [s.rxByte_results_eq_completes, hlast]

/-- Settles O15: from offset 4 on every byte passes, and it is the frame's last once the offset has reached `L + 3`. -/
theorem offsetFourOnBuffersVerbatim : Obligations.OffsetFourOnBuffersVerbatim := by
  intro s b hlow hhigh
  have hpass : s.rx.passes b = true := s.rx.passes_of_four_le b hlow
  have hlast : s.rx.completes b = decide (s.rx.length.toNat + 3 ≤ s.rx.cursor.toNat) := s.rx.completes_of_four_le b hlow
  refine ⟨s.rxByte b, rfl, ?cells, ?length, ?cursor, ?done, rfl, rfl, rfl, rfl, ?results⟩
  case cells =>
    intro i
    simp only [s.cell_rxByte_of_passes b hpass i, Nat.lt_succ_iff]
  case length =>
    rw [s.rxByte_length_of_passes b hpass, RxState.nextLength, if_neg (by omega)]
  case cursor => simp only [s.rxByte_cursor_of_passes b hpass (by omega), hlast, decide_eq_true_eq]
  case done => rw [s.rxByte_done_eq_completes, hlast]
  case results => rw [s.rxByte_results_eq_completes, hlast]

/-- Settles O11: `0x42` is accepted as a header byte; any other byte sets the cursor to the 0 it already holds. -/
theorem offsetZeroTakesOnlyMagicOne : Obligations.OffsetZeroTakesOnlyMagicOne := by
  intro s b hcur
  have hcheck : s.rx.passes b = decide (b = 0x42#8) := s.rx.passes_offset0 b hcur
  constructor
  · rintro rfl
    exact exec_rxByte_header_passed s _ 0 hcur (by decide) (by simp [hcheck])
  · intro hne
    have hzero : s.rx.cursor = 0#6 := BitVec.eq_of_toNat_eq hcur
    rw [exec_rxByte_rejected s b (by simp [hcheck, hne]), ← hzero]

/-- Settles O12: `0x4D` is accepted as a header byte, any other byte is rejected. -/
theorem offsetOneTakesOnlyMagicTwo : Obligations.OffsetOneTakesOnlyMagicTwo := by
  intro s b hcur
  have hcheck : s.rx.passes b = decide (b = 0x4D#8) := s.rx.passes_offset1 b hcur
  constructor
  · rintro rfl
    exact exec_rxByte_header_passed s _ 1 hcur (by decide) (by simp [hcheck])
  · intro hne
    exact exec_rxByte_rejected s b (by simp [hcheck, hne])

/-- Settles O13: `0x00` is accepted as a header byte, any other byte is rejected. -/
theorem offsetTwoTakesOnlyZero : Obligations.OffsetTwoTakesOnlyZero := by
  intro s b hcur
  have hcheck : s.rx.passes b = decide (b = 0x00#8) := s.rx.passes_offset2 b hcur
  constructor
  · rintro rfl
    exact exec_rxByte_header_passed s _ 2 hcur (by decide) (by simp [hcheck])
  · intro hne
    exact exec_rxByte_rejected s b (by simp [hcheck, hne])

end Sys2Proof.Machine
end

section
/-!
PROOFS. Who writes `rx.done` (spec/40_rx_parser.md R71, R73): `RX.BYTE`, `RX.CLEAR` and `RESET`, while the queries, `RX.NOP`
and every TX operation leave the RX registers alone.
-/

namespace Sys2Proof.Machine

/-! ### Operations that leave the RX registers alone -/

@[simp] theorem State.txLoad_rx (s : State) (c : Command) (p : Half) : (s.txLoad c p).rx = s.rx := by
  unfold State.txLoad
  split <;> rfl

@[simp] theorem State.acceptedSteps_rx (n : Nat) (s : State) : (State.acceptedSteps n s).rx = s.rx := by
  induction n generalizing s with
  | zero => rfl
  | succ n ih => exact ih (s.txStep .accept)

@[simp] theorem State.sendFrame_rx (s : State) (c : Command) (p : Half) : (s.sendFrame c p).rx = s.rx := by
  unfold State.sendFrame
  split <;> simp

/-- A TX operation, or a command frame going out, changes no RX register (R37, R39). -/
theorem exec_txOperation_keeps_rx (i : Instr) (s t : State) (hi : isTxOperation i = true) (h : exec i s = .next t) :
    t.rx = s.rx := by
  cases i with
  | txClear => cases h; rfl
  | txLoad c p => cases h; exact s.txLoad_rx c p
  | txStepE e => cases h; rfl
  | txStepA => cases h; rfl
  | txStepW => cases h; rfl
  | cmdSetMode p => cases h; exact s.sendFrame_rx .setMode p
  | cmdReadPassive p => cases h; exact s.sendFrame_rx .readPassive p
  | cmdSetSleep p => cases h; exact s.sendFrame_rx .setSleep p
  | _ => cases hi

/-- A query, or a cycle without an RX operation, changes no RX register (R29, R80, R84). -/
theorem exec_query_or_nop_keeps_rx (i : Instr) (s t : State) (hi : i = .rxNop ∨ i = .rxValidate ∨ i = .rxDecode)
    (h : exec i s = .next t) : t.rx = s.rx := by
  obtain rfl | rfl | rfl := hi <;> (cases h; rfl)

/-! ### RX.CLEAR and the obligations -/

@[simp] theorem exec_rxClear (s : State) : exec .rxClear s = .next s.rxCleared := rfl

@[simp] theorem exec_reset (s : State) : exec .reset s = .next s.resetOnce := rfl

/-- Settles O16: `RX.BYTE` writes `rx.done` with its result, true exactly on a frame's last byte; the other rows by the kind
of operation they are. -/
theorem doneIsTheLatestByteResult : Obligations.DoneIsTheLatestByteResult := by
  refine ⟨fun s b => ?byte, fun s t h => ?clear, fun s t h => ?reset, fun i s t hbyte hresp hmeas hclear hreset h => ?other⟩
  case byte =>
    exact ⟨s.rxByte b, s.rx.completes b, rfl, s.rxByte_results_eq_completes b, s.rxByte_done_eq_completes b,
      s.rx.completes_iff b⟩
  case clear => cases h; rfl
  case reset => cases h; rfl
  case other =>
    refine congrArg RxState.done ?_
    cases i with
    | reset => exact absurd rfl hreset
    | rxClear => exact absurd rfl hclear
    | rxByte b => exact absurd rfl (hbyte b)
    | frameResp len body => exact absurd rfl (hresp len body)
    | frameMeas d r0 r1 ck => exact absurd rfl (hmeas d r0 r1 ck)
    | rxNop | rxValidate | rxDecode => exact exec_query_or_nop_keeps_rx _ s t (by simp) h
    | _ => exact exec_txOperation_keeps_rx _ s t rfl h

/-- Settles O22: the cleared state by definition; its cursor is 0, where `0x42` is accepted as the first header byte. -/
theorem rxClearRestartsTheParser : Obligations.RxClearRestartsTheParser := by
  intro s
  have hcur : s.rxCleared.rx.cursor.toNat = 0 := rfl
  obtain ⟨hmagic, -⟩ := offsetZeroTakesOnlyMagicOne s.rxCleared 0x42#8 hcur
  obtain ⟨u, hu, hone, -⟩ := hmagic rfl
  exact ⟨s.rxCleared, exec_rxClear s, rfl, u, hu, hone⟩

end Sys2Proof.Machine
end

section
/-!
PROOFS. The 16-bit sums and big-endian halves of 00_scope.md section 6 as natural numbers.
-/

namespace Sys2Proof

/-- A big-endian half never wraps: it is the number its two bytes write. -/
@[simp] theorem be16_toNat (a b : Byte) : (be16 a b).toNat = 256 * a.toNat + b.toNat := by
  have hfits : a.toNat * 256 + b.toNat < 2 ^ 16 := by omega
  rw [be16, BitVec.toNat_ofNat, Nat.mod_eq_of_lt hfits, Nat.mul_comm]

@[simp] theorem zext16_toNat (b : Byte) : (zext16 b).toNat = b.toNat :=
  BitVec.toNat_setWidth_of_le (by decide)

/-- `SUM16` is the sum of the bytes modulo 65536. -/
theorem sum16_toNat (bs : List Byte) : (sum16 bs).toNat = (bs.map BitVec.toNat).sum % 65536 := by
  induction bs with
  | nil => rfl
  | cons b bs ih => simp [sum16, ih]

end Sys2Proof
end

section
/-!
PROOFS. The two pure queries (spec/41_rx_validate_decode.md R80 to R84): the value `RX.VALIDATE` returns, as an equation
between numbers, and the fields `RX.DECODE` returns.
-/

namespace Sys2Proof.Machine

/-! ### The value of RX.VALIDATE -/

theorem State.rxSum_toNat (s : State) : s.rxSum.toNat =
    (((List.range (s.rx.length.toNat + 2)).map fun i => (s.cell i).toNat).sum) % 65536 := by
  simp [State.rxSum, State.cells, RxState.declared, sum16_toNat, Function.comp_def]

theorem State.rxChecksum_toNat (s : State) : s.rxChecksum.toNat =
    256 * (s.cell (s.rx.length.toNat + 2)).toNat + (s.cell (s.rx.length.toNat + 3)).toNat :=
  be16_toNat _ _

/-- A frame that fits validates exactly when its sum, as a number, is the stored checksum (R80). -/
theorem State.validate_of_fits (s : State) (h : s.rx.length.toNat ≤ 28) : s.validate = decide (
    (((List.range (s.rx.length.toNat + 2)).map fun i => (s.cell i).toNat).sum) % 65536 =
      256 * (s.cell (s.rx.length.toNat + 2)).toNat + (s.cell (s.rx.length.toNat + 3)).toNat) := by
  have hfits : ¬ fitLen < s.rx.declared := Nat.not_lt.mpr h
  simp only [State.validate, if_neg hfits, ← s.rxSum_toNat, ← s.rxChecksum_toNat, BitVec.toNat_inj]

/-- A frame that does not fit never validates (R81). -/
theorem State.validate_of_not_fits (s : State) (h : 28 < s.rx.length.toNat) : s.validate = false :=
  if_pos h

/-- Settles O24: the value by whether the frame fits; `exec` returns it and changes nothing. -/
theorem validateComparesTheSum : Obligations.ValidateComparesTheSum := fun s =>
  ⟨fun hfits => (exec_rxValidate_returns_iff s _).mpr (s.validate_of_fits hfits),
    fun hbig => (exec_rxValidate_returns_iff s _).mpr (s.validate_of_not_fits hbig)⟩

/-! ### The fields of RX.DECODE -/

/-- Settles O27: each field of the record is the big-endian half of its two cells. -/
theorem decodeReadsTwelveFields : Obligations.DecodeReadsTwelveFields := by
  intro s
  refine ⟨s.decodeRecord, exec_rxDecode s, ?fields⟩
  case fields => and_intros <;> exact be16_toNat _ _

/-! ### Held frames of declared length 0 and 1 -/

/-- A held frame too short for a checksum of its own never validates (R82): its sum is `0x8F`, while what stands where the
checksum would is `0x0000`, the length field itself, for length 0, and at least `0x0100` for length 1. -/
theorem State.validate_of_held_length_le_one (s : State) (hinv : s.RxInv) (hdone : s.rx.done = true)
    (hlen : s.rx.length.toNat ≤ 1) : s.validate = false := by
  obtain ⟨h0, h1, h2, h3⟩ := hinv.done_header hdone
  rw [s.validate_of_fits (by omega), decide_eq_false_iff_not]
  obtain hL | hL : s.rx.length.toNat = 0 ∨ s.rx.length.toNat = 1 := by omega
  · simp [hL, List.range_succ, h0, h1, h2, h3]
  · have hhigh : (0x8F : Nat) ≠ 256 + (s.cell 4).toNat := by omega
    simpa [hL, List.range_succ, h0, h1, h2, h3] using hhigh

end Sys2Proof.Machine
end

section
/-!
PROOFS. A frame that fits, byte by byte (spec/40_rx_parser.md R66 to R70): while its bytes come in, the buffer holds them, and
the last one completes it. The smallest frame that validates (R82) is one of them.
-/

namespace Sys2Proof.Machine

/-- A script that begins with bytes of the RX wire runs on from the state those bytes leave. -/
theorem runScript_rxBytes_append (bs : List Byte) (is : List Instr) (s : State) :
    runScript (rxBytes bs ++ is) s = runScript is (bs.foldl State.rxByte s) := by
  induction bs generalizing s with
  | nil => rfl
  | cons b bs ih => exact ih (s.rxByte b)

theorem State.cells_succ (s : State) (n : Nat) : s.cells (n + 1) = s.cells n ++ [s.cell n] := by
  simp [State.cells, List.range_succ]

/-- An accepted byte lengthens the listing of the cells before the cursor by itself. -/
theorem State.cells_rxByte_of_passes (s : State) (b : Byte) (h : s.rx.passes b = true) (hcur : s.rx.cursor.toNat < 32) :
    (s.rxByte b).cells (s.rx.cursor.toNat + 1) = s.cells s.rx.cursor.toNat ++ [b] := by
  have hcell := s.cell_rxByte_of_passes_of_cursor_lt b h hcur
  have hbefore : (s.rxByte b).cells s.rx.cursor.toNat = s.cells s.rx.cursor.toNat :=
    List.map_congr_left fun i hi => (hcell i).trans (if_neg (List.mem_range.mp hi).ne)
  rw [State.cells_succ, hbefore, hcell, if_pos rfl]

/-- The parser is inside a frame whose bytes so far are `pre`: they stand in the buffer, each has added a `false` to the results
there were before, and once the length byte is among them it is the declared length. -/
structure State.Collected (s : State) (before : List Result) (pre : List Byte) : Prop where
  cursor : s.rx.cursor.toNat = pre.length
  cells : s.cells pre.length = pre
  results : s.results = before ++ List.replicate pre.length (.byte false)
  length : ∀ len, pre[3]? = some len → s.rx.length.toNat = len.toNat

section
variable {s : State} {before : List Result} {pre : List Byte} {b len : Byte}

theorem State.collected_nil (h : s.rx.cursor = 0#6) : s.Collected s.results [] where
  cursor := by simp [h]
  cells := rfl
  results := (List.append_nil _).symm
  length := by simp

/-! ### One accepted byte -/

/-- The declared length after an accepted byte is the length byte of the frame so far. -/
theorem State.Collected.length_rxByte (h : s.Collected before pre) (hpass : s.rx.passes b = true)
    (hlen : (pre ++ [b])[3]? = some len) : (s.rxByte b).rx.length.toNat = len.toNat := by
  rw [s.rxByte_length_of_passes b hpass, RxState.nextLength, h.cursor]
  rcases Nat.lt_trichotomy pre.length 3 with hlt | heq | hgt
  · rw [List.getElem?_eq_none (by simpa using hlt)] at hlen
    cases hlen
  · obtain rfl : b = len := by simpa [← heq] using hlen
    have hle : b.toNat ≤ 32 := by simpa [s.rx.passes_offset3 b (h.cursor.trans heq)] using hpass
    rw [if_pos heq, BitVec.toNat_setWidth, Nat.mod_eq_of_lt (by omega)]
  · rw [List.getElem?_append_left hgt] at hlen
    rw [if_neg hgt.ne', h.length len hlen]

theorem State.Collected.cells_rxByte (h : s.Collected before pre) (hpass : s.rx.passes b = true) (hroom : pre.length < 32) :
    (s.rxByte b).cells (pre.length + 1) = pre ++ [b] := by
  have hcells := s.cells_rxByte_of_passes b hpass (h.cursor ▸ hroom)
  rwa [h.cursor, h.cells] at hcells

/-- An accepted byte that is not the frame's last is collected. -/
theorem State.Collected.rxByte (h : s.Collected before pre) (hpass : s.rx.passes b = true)
    (hmore : s.rx.completes b = false) (hroom : pre.length < 32) : (s.rxByte b).Collected before (pre ++ [b]) where
  cursor := by
    have hcur := h.cursor
    rw [s.rxByte_cursor_of_passes b hpass (by omega), hmore, hcur]
    simp
  cells := by simpa using h.cells_rxByte hpass hroom
  results := by
    rw [s.rxByte_results_eq_completes, hmore, h.results]
    simp [List.replicate_succ']
  length := fun _ hlen => h.length_rxByte hpass hlen

/-! ### The header, the bytes after it, and the last byte -/

theorem State.Collected.rxByte_of_lt_three (h : s.Collected before pre) (hlt : pre.length < 3)
    (hpass : s.rx.passes b = true) : (s.rxByte b).Collected before (pre ++ [b]) :=
  h.rxByte hpass (s.rx.completes_of_lt_three b (h.cursor ▸ hlt)) (by omega)

/-- The header of a frame whose declared length is neither 0 nor above 32 is collected (R66 to R69). -/
theorem State.Collected.header (h : s.Collected before []) (hpos : 1 ≤ len.toNat) (hle : len.toNat ≤ 32) :
    ([0x42#8, 0x4D#8, 0x00#8, len].foldl State.rxByte s).Collected before [0x42#8, 0x4D#8, 0x00#8, len] := by
  have h1 := h.rxByte_of_lt_three (by decide) ((RxState.passes_offset0 _ 0x42#8 h.cursor).trans rfl)
  have h2 := h1.rxByte_of_lt_three (by decide) ((RxState.passes_offset1 _ 0x4D#8 h1.cursor).trans rfl)
  have h3 := h2.rxByte_of_lt_three (by decide) ((RxState.passes_offset2 _ 0x00#8 h2.cursor).trans rfl)
  exact h3.rxByte ((RxState.passes_offset3 _ len h3.cursor).trans (decide_eq_true hle))
    ((RxState.completes_offset3 _ len h3.cursor).trans (decide_eq_false (by omega))) (by decide)

/-- After the header, bytes before the frame's last are collected, whatever they are (R70). -/
theorem State.Collected.body (bs : List Byte) (h : s.Collected before pre) (hlen : pre[3]? = some len)
    (hbefore : pre.length + bs.length ≤ len.toNat + 3) (hfits : len.toNat ≤ 28) :
    (bs.foldl State.rxByte s).Collected before (pre ++ bs) := by
  induction bs generalizing s pre with
  | nil => simpa using h
  | cons b bs ih =>
    obtain ⟨hheader, -⟩ := List.getElem?_eq_some_iff.mp hlen
    have hcur := h.cursor
    have hdeclared := h.length len hlen
    rw [List.length_cons] at hbefore
    have hmore : s.rx.completes b = false := by
      rw [s.rx.completes_of_four_le b (by omega), decide_eq_false_iff_not]
      omega
    have hnext := h.rxByte (s.rx.passes_of_four_le b (by omega)) hmore (by omega)
    simpa using ih hnext (by rwa [List.getElem?_append_left hheader]) (by simp; omega)

/-- The byte at offset `L + 3` completes the frame, which then stands in the buffer (R70, R71). -/
theorem State.Collected.last (h : s.Collected before pre) (hlen : pre[3]? = some len)
    (hend : pre.length = len.toNat + 3) (hfits : len.toNat ≤ 28) :
    (s.rxByte b).rx.done = true ∧ (s.rxByte b).rx.length.toNat = len.toNat ∧
      (s.rxByte b).cells (len.toNat + 4) = pre ++ [b] ∧
      (s.rxByte b).results = before ++ List.replicate (len.toNat + 3) (.byte false) ++ [.byte true] := by
  obtain ⟨hheader, -⟩ := List.getElem?_eq_some_iff.mp hlen
  have hcur := h.cursor
  have hpass : s.rx.passes b = true := s.rx.passes_of_four_le b (by omega)
  have hlast : s.rx.completes b = true := by
    rw [s.rx.completes_of_four_le b (by omega), decide_eq_true_iff, h.length len hlen]
    omega
  refine ⟨?done, ?length, ?cells, ?results⟩
  case done => rw [s.rxByte_done_eq_completes, hlast]
  case length => exact h.length_rxByte hpass (by rwa [List.getElem?_append_left hheader])
  case cells => rw [← h.cells_rxByte hpass (by omega), hend]
  case results => rw [s.rxByte_results_eq_completes, hlast, h.results, hend]

/-- A frame of declared length 1 to 28 is received from cursor 0: its last byte completes it and the buffer holds it, whether
or not it validates (R53, R70). -/
theorem State.foldl_rxByte_responseFrame (body : List Byte) (hcur : s.rx.cursor = 0#6)
    (hbody : body.length + 1 = len.toNat) (hfits : len.toNat ≤ 28) :
    ∃ t, (responseFrame len (body ++ [b])).foldl State.rxByte s = t ∧ t.rx.done = true ∧ t.rx.length.toNat = len.toNat ∧
      t.cells (len.toNat + 4) = responseFrame len (body ++ [b]) ∧
      t.results = s.results ++ List.replicate (len.toNat + 3) (.byte false) ++ [.byte true] := by
  have hheader := (State.collected_nil hcur).header (len := len) (by omega) (by omega)
  have hall := hheader.body body rfl (by simp; omega) hfits
  have hlast := hall.last (b := b) rfl (by simp; omega) hfits
  refine ⟨_, ?_, hlast⟩
  simp [responseFrame, magic1, magic2]

end

/-! ### The smallest frame that validates -/

/-- Settles O25: a held frame of length 0 or 1 has no room for its checksum; `42 4D 00 02 00 91` is received like every frame
that fits, and its sum `0x42 + 0x4D + 0x00 + 0x02` is `0x0091`. -/
theorem lengthZeroOrOneNeverValidates : Obligations.LengthZeroOrOneNeverValidates := by
  refine ⟨fun s hinv hdone hlen => ?short, fun s hcur => ?smallest⟩
  case short =>
    exact (exec_rxValidate_returns_iff s false).mpr (s.validate_of_held_length_le_one hinv hdone hlen)
  case smallest =>
    obtain ⟨t, hrun, hdone, hlen, hcells, hresults⟩ :=
      State.foldl_rxByte_responseFrame (len := 0x02#8) (b := 0x91#8) [0x00#8] hcur rfl (by decide)
    have hvalid : t.validate = true := by
      have hL : t.rx.length.toNat = 2 := hlen
      have hheld : t.cell 0 = 0x42#8 ∧ t.cell 1 = 0x4D#8 ∧ t.cell 2 = 0x00#8 ∧ t.cell 3 = 0x02#8 ∧ t.cell 4 = 0x00#8 ∧
          t.cell 5 = 0x91#8 := by
        simpa [State.cells, List.range_succ, responseFrame, magic1, magic2] using hcells
      rw [t.validate_of_fits (by omega)]
      simp [hL, List.range_succ, hheld]
    refine ⟨t.askValidate, ?run, hdone, ?results⟩
    case run => exact (runScript_rxBytes_append _ _ s).trans (congrArg (runScript [.rxValidate]) hrun)
    case results => simp [hresults, hvalid]

end Sys2Proof.Machine
end

section
/-!
PROOFS. A half as its two bytes, the command checksum as a number, and the command codes (00_scope.md section 6, R46, R91).
-/

namespace Sys2Proof

@[simp] theorem hi_toNat (v : Half) : (hi v).toNat = v.toNat / 256 :=
  Nat.mod_eq_of_lt (by omega : v.toNat / 256 < 2 ^ 8)

@[simp] theorem lo_toNat (v : Half) : (lo v).toNat = v.toNat % 256 := rfl

/-- A half is the number its two bytes write. -/
theorem hi_lo_toNat (v : Half) : 256 * (hi v).toNat + (lo v).toNat = v.toNat := by
  rw [hi_toNat, lo_toNat, Nat.div_add_mod]

/-- The command checksum is the sum of five bytes (R48, R91). -/
theorem commandChecksum_toNat (c : Command) (p : Half) : (commandChecksum c p).toNat =
    (0x42 + 0x4D + c.code.toNat + p.toNat / 256 + p.toNat % 256) % 65536 := by
  simp [commandChecksum, magic1, magic2]

/-- The codes of the three commands that can be in flight (R5, R46). -/
theorem Command.code_of_ne_none (c : Command) (h : c ≠ .none) :
    c.code = if c = .setMode then 0xE1#8 else if c = .readPassive then 0xE2#8 else 0xE4#8 := by
  cases c with
  | none => exact absurd rfl h
  | readPassive | setMode | setSleep => rfl

end Sys2Proof
end

section
/-!
PROOFS. The TX command serializer (spec/42_tx_serializer.md R90 to R99): what `TX.LOAD`, `TX.STEP` and `TX.CLEAR` do to the
state, by whether a command is in flight, the cursor, and the transport's answer.
-/

namespace Sys2Proof.Machine

@[simp] theorem exec_txLoad (s : State) (c : Command) (p : Half) : exec (.txLoad c p) s = .next (s.txLoad c p) := rfl

@[simp] theorem exec_txClear (s : State) : exec .txClear s = .next s.txCleared := rfl

@[simp] theorem exec_txStepOf (s : State) (a : TxAnswer) : exec (txStepOf a) s = .next (s.txStep a) := by
  cases a with
  | accept | wouldBlock | error e => rfl

/-! ### TX.LOAD -/

theorem TxState.accepts_iff (t : TxState) (c : Command) : t.accepts c = true ↔ t.cmd = .none ∧ c ≠ .none := by
  simp [TxState.accepts]

theorem State.txLoad_of_accepts (s : State) (c : Command) (p : Half) (h : s.tx.accepts c = true) :
    s.txLoad c p = { s with tx := TxState.loaded c p }.answer (.load .accepted) := if_pos h

theorem State.txLoad_of_not_accepts (s : State) (c : Command) (p : Half) (h : ¬ s.tx.accepts c = true) :
    s.txLoad c p = s.answer (.load .refused) := if_neg h

/-- The checksum registers of a loaded command hold the sum of the five bytes before them (R91). -/
theorem TxState.loaded_checksum (c : Command) (p : Half) :
    256 * (TxState.loaded c p).ckHi.toNat + (TxState.loaded c p).ckLo.toNat =
      (0x42 + 0x4D + c.code.toNat + p.toNat / 256 + p.toNat % 256) % 65536 :=
  (hi_lo_toNat (commandChecksum c p)).trans (commandChecksum_toNat c p)

/-- Settles O35: the load is accepted or refused by `TxState.accepts`; an accepted one leaves `TxState.loaded`, whose bytes
and checksum are its operands' as numbers. -/
theorem loadFillsAFreeSlotOnly : Obligations.LoadFillsAFreeSlotOnly := by
  refine fun s c p => ⟨fun hno => ?refused, fun hfree hc => ?accepted⟩
  case refused =>
    have hrefuse : ¬ s.tx.accepts c = true := by
      rw [TxState.accepts_iff]
      exact fun ⟨hfree, hc⟩ => hno.elim (· hfree) hc
    exact congrArg Host.Outcome.next (s.txLoad_of_not_accepts c p hrefuse)
  case accepted =>
    have hload := s.txLoad_of_accepts c p ((s.tx.accepts_iff c).mpr ⟨hfree, hc⟩)
    refine ⟨_, congrArg Host.Outcome.next hload, rfl, hi_toNat p, lo_toNat p, TxState.loaded_checksum c p, rfl,
      (State.txBusy_iff _).mpr hc, (State.txValid_iff _).mpr ⟨hc, (by decide : (0#3).toNat < 7)⟩, ?done, rfl, rfl, rfl, rfl, rfl⟩
    case done => exact Bool.and_false _

/-! ### TXBYTE -/

/-- Settles O36: each byte is the frame's field at its offset; the code at offset 2 by the command in flight. -/
theorem txByteTable : Obligations.TxByteTable := fun t hcmd =>
  ⟨rfl, rfl, congrArg some (t.cmd.code_of_ne_none hcmd), rfl, rfl, rfl, rfl⟩

/-! ### TX.STEP -/

/-- A step whose attempt puts nothing on the wire and moves no register only returns its result (R95 to R98). -/
theorem exec_txStepOf_of_attempt_eq_self (s : State) (a : TxAnswer) (r : StepResult) (h : s.tx.attempt a = ⟨s.tx, r, []⟩) :
    exec (txStepOf a) s = .next { s with results := s.results ++ [.step r] } := by
  simp [State.txStep, State.emit, State.answer, h]

/-- An accepted byte moves the cursor on by one; below 7 its three bits do not wrap (R20, R94). -/
theorem TxState.attempt_accept_cursor (t : TxState) (h : t.cmd ≠ .none) (hcur : t.cursor.toNat < 7) :
    (t.attempt .accept).tx.cursor.toNat = t.cursor.toNat + 1 := by
  obtain ⟨b, hb⟩ := t.byteAt_isSome _ hcur
  rw [t.attempt_offered .accept b h hb]
  exact Nat.mod_eq_of_lt (by omega : t.cursor.toNat + 1 < 2 ^ 3)

/-- Settles O37: the attempt offers the byte at the cursor, and the accepted answer decides the wire, the cursor and the
result. -/
theorem acceptedStepSendsTheNextByte : Obligations.AcceptedStepSendsTheNextByte := by
  intro s hcmd hcur
  obtain ⟨b, hb⟩ := s.tx.byteAt_isSome _ hcur
  have hattempt := s.tx.attempt_offered .accept b hcmd hb
  refine ⟨b, s.txStep .accept, hb, exec_txStepOf s .accept, ?wire, s.tx.attempt_accept_cursor hcmd hcur,
    s.tx.attempt_registers .accept, ?results, rfl, rfl, rfl⟩
  case wire => simp [hattempt]
  case results => simp [hattempt]

/-- Settles O38: with a byte to offer, `WouldBlock` leaves the attempt's registers and the wire alone. -/
theorem blockedStepChangesNothing : Obligations.BlockedStepChangesNothing := by
  intro s hcmd hcur
  obtain ⟨b, hb⟩ := s.tx.byteAt_isSome _ hcur
  exact exec_txStepOf_of_attempt_eq_self s .wouldBlock .pending (s.tx.attempt_offered .wouldBlock b hcmd hb)

/-- Settles O39: with a byte to offer, `Error(e)` leaves the attempt's registers and the wire alone and is the result. -/
theorem failedStepPassesTheErrorThrough : Obligations.FailedStepPassesTheErrorThrough := by
  intro s e hcmd hcur
  obtain ⟨b, hb⟩ := s.tx.byteAt_isSome _ hcur
  exact exec_txStepOf_of_attempt_eq_self s (.error e) (.failed e) (s.tx.attempt_offered (.error e) b hcmd hb)

/-- Settles O40: without a command the attempt is idle, whatever the answer. -/
theorem stepWithoutCommandIsIdle : Obligations.StepWithoutCommandIsIdle := fun s a hnone =>
  exec_txStepOf_of_attempt_eq_self s a .idle (s.tx.attempt_idle a hnone)

/-- Settles O41: at cursor 7 there is no byte to offer, so the attempt is complete, whatever the answer. -/
theorem stepAfterTheLastByteIsComplete : Obligations.StepAfterTheLastByteIsComplete := fun s a hcmd hcur =>
  exec_txStepOf_of_attempt_eq_self s a .complete (s.tx.attempt_sent a hcmd hcur)

/-! ### TX.CLEAR -/

/-- Settles O42: the cleared state by definition; each TX output needs a command in flight (R24). -/
theorem txClearFreesTheSlot : Obligations.TxClearFreesTheSlot := fun s =>
  ⟨s.txCleared, exec_txClear s, rfl, rfl, rfl, rfl⟩

end Sys2Proof.Machine
end

section
/-!
PROOFS. Every operation answers a next state (spec/60_exceptions.md R105). The five frame rows (log 7) get their equations
here; the other rows have theirs above.
-/

namespace Sys2Proof.Machine

@[simp] theorem exec_rxNop (s : State) : exec .rxNop s = .next s := rfl

@[simp] theorem exec_cmdSetMode (s : State) (p : Half) : exec (.cmdSetMode p) s = .next (s.sendFrame .setMode p) := rfl

@[simp] theorem exec_cmdReadPassive (s : State) (p : Half) :
    exec (.cmdReadPassive p) s = .next (s.sendFrame .readPassive p) := rfl

@[simp] theorem exec_cmdSetSleep (s : State) (p : Half) : exec (.cmdSetSleep p) s = .next (s.sendFrame .setSleep p) := rfl

@[simp] theorem exec_frameResp (s : State) (len : Byte) (body : List Byte) :
    exec (.frameResp len body) s = .next (s.deliver State.askValidate (responseFrame len body)) := rfl

@[simp] theorem exec_frameMeas (s : State) (d : SensorData) (r0 r1 : Byte) (checksum : Half) :
    exec (.frameMeas d r0 r1 checksum) s =
      .next (s.deliver State.askMeasurement (measurementFrame d r0 r1 checksum)) := rfl

/-- Settles O47: the equation of each row of the opcode table names the next state it answers. -/
theorem noOperationStops : Obligations.NoOperationStops := by
  intro i s
  cases i with
  | reset => exact ⟨_, exec_reset s⟩
  | rxClear => exact ⟨_, exec_rxClear s⟩
  | rxByte b => exact ⟨_, exec_rxByte s b⟩
  | rxNop => exact ⟨_, exec_rxNop s⟩
  | rxValidate => exact ⟨_, exec_rxValidate s⟩
  | rxDecode => exact ⟨_, exec_rxDecode s⟩
  | txClear => exact ⟨_, exec_txClear s⟩
  | txLoad c p => exact ⟨_, exec_txLoad s c p⟩
  | txStepE e => exact ⟨_, exec_txStepOf s (.error e)⟩
  | txStepA => exact ⟨_, exec_txStepOf s .accept⟩
  | txStepW => exact ⟨_, exec_txStepOf s .wouldBlock⟩
  | cmdSetMode p => exact ⟨_, exec_cmdSetMode s p⟩
  | cmdReadPassive p => exact ⟨_, exec_cmdReadPassive s p⟩
  | cmdSetSleep p => exact ⟨_, exec_cmdSetSleep s p⟩
  | frameResp len body => exact ⟨_, exec_frameResp s len body⟩
  | frameMeas d r0 r1 checksum => exact ⟨_, exec_frameMeas s d r0 r1 checksum⟩

end Sys2Proof.Machine
end

section
/-!
PROOFS. A held frame outlives its window (spec/70_reset_and_hazards.md R131): the bytes of the next header are written over
equal ones, and a rejected byte writes nothing.
-/

namespace Sys2Proof.Machine

/-- Over a header that stands in the buffer, an accepted header byte is the one its cell already holds (R66 to R68). -/
theorem State.eq_cell_cursor_of_header_passes (s : State) (b : Byte) (h0 : s.cell 0 = 0x42#8) (h1 : s.cell 1 = 0x4D#8)
    (h2 : s.cell 2 = 0x00#8) (hcur : s.rx.cursor.toNat < 3) (hpass : s.rx.passes b = true) :
    b = s.cell s.rx.cursor.toNat := by
  obtain hk | hk | hk : s.rx.cursor.toNat = 0 ∨ s.rx.cursor.toNat = 1 ∨ s.rx.cursor.toNat = 2 := by omega
  · rw [s.rx.passes_offset0 b hk, decide_eq_true_iff] at hpass
    rw [hk, h0, hpass]
  · rw [s.rx.passes_offset1 b hk, decide_eq_true_iff] at hpass
    rw [hk, h1, hpass]
  · rw [s.rx.passes_offset2 b hk, decide_eq_true_iff] at hpass
    rw [hk, h2, hpass]

/-- Settles O21: a rejected byte touches neither the length nor a cell; an accepted one stands before offset 3 and rewrites
the header byte that its cell holds. -/
theorem heldFrameSurvivesUntilTheNextLength : Obligations.HeldFrameSurvivesUntilTheNextLength := by
  intro s b h0 h1 h2 hcur
  cases hpass : s.rx.passes b with
  | false => exact ⟨_, exec_rxByte_rejected s b hpass, rfl, s.cell_congr _ rfl rfl⟩
  | true =>
    have hheader : s.rx.cursor.toNat < 3 := by
      obtain hlow | ⟨hthree, hbig⟩ := hcur
      · omega
      · rw [s.rx.passes_offset3 b hthree, decide_eq_true_iff] at hpass
        omega
    obtain ⟨t, hexec, -, hlength, -, hcells, -⟩ := exec_rxByte_header_passed s b _ rfl hheader hpass
    refine ⟨t, hexec, hlength, fun i => ?_⟩
    rw [hcells i]
    split
    case isTrue hi => rw [hi, ← s.eq_cell_cursor_of_header_passes b h0 h1 h2 hheader hpass]
    case isFalse => rfl

end Sys2Proof.Machine
end

section
/-!
PROOFS. The control words (spec/30_encoding.md section 4, R59): the bits of a cycle's word are its request signals, so each word
selects by priority; and an operation's control word is that of the cycle that requests just this operation.
-/

namespace Sys2Proof

/-! ### Bits and bytes of a number -/

theorem bitAt_eq_of_toNat {v k : Nat} {b : Bool} (h : v / 2 ^ k % 2 = b.toNat) : bitAt v k = b := by
  rw [bitAt, h]
  cases b <;> rfl

@[simp] theorem byteOf_toNat (v k : Nat) : (byteOf v k).toNat = v / 256 ^ k % 256 := rfl

/-! ### The word of a cycle -/

theorem Signals.ctrlRx_toNat (g : Signals) : g.ctrlRx.toNat =
    2 ^ 10 * g.rst.toNat + 2 ^ 9 * g.rxClear.toNat + 2 ^ 8 * g.rxValid.toNat + g.rxData.toNat := by
  have hrst := g.rst.toNat_le
  have hclear := g.rxClear.toNat_le
  have hvalid := g.rxValid.toNat_le
  exact Nat.mod_eq_of_lt (by omega)

theorem Signals.ctrlTx_toNat (g : Signals) : g.ctrlTx.toNat =
    2 ^ 22 * g.rst.toNat + 2 ^ 21 * g.txClear.toNat + 2 ^ 20 * g.txLoad.toNat + 2 ^ 19 * g.txErr.toNat +
      2 ^ 18 * g.txReady.toNat + 2 ^ 16 * g.txCmdIn.toNat + g.txPayloadIn.toNat := by
  have hrst := g.rst.toNat_le
  have hclear := g.txClear.toNat_le
  have hload := g.txLoad.toNat_le
  have herr := g.txErr.toNat_le
  have hready := g.txReady.toNat_le
  exact Nat.mod_eq_of_lt (by omega)

/-- What `CTRL_RX` selects (R59): each request is one bit of the word, and the data its low byte. -/
theorem Signals.decodeCtrlRx_ctrlRx (g : Signals) : decodeCtrlRx g.ctrlRx =
    if g.rst then .reset else if g.rxClear then .rxClear else if g.rxValid then .rxByte g.rxData else .rxNop := by
  have hword := g.ctrlRx_toNat
  have hrst := g.rst.toNat_le
  have hclear := g.rxClear.toNat_le
  have hvalid := g.rxValid.toNat_le
  have hbit10 : bitAt g.ctrlRx.toNat 10 = g.rst := bitAt_eq_of_toNat (by omega)
  have hbit9 : bitAt g.ctrlRx.toNat 9 = g.rxClear := bitAt_eq_of_toNat (by omega)
  have hbit8 : bitAt g.ctrlRx.toNat 8 = g.rxValid := bitAt_eq_of_toNat (by omega)
  have hdata : BitVec.ofNat 8 g.ctrlRx.toNat = g.rxData := by
    apply BitVec.eq_of_toNat_eq
    rw [BitVec.toNat_ofNat]
    omega
  rw [decodeCtrlRx, hbit10, hbit9, hbit8, hdata]

/-- What `CTRL_TX` selects (R59, R29): each request is one bit of the word, the command two bits, the payload its low half. -/
theorem Signals.decodeCtrlTx_ctrlTx (g : Signals) : decodeCtrlTx g.ctrlTx g.txErrCode =
    if g.rst then .reset else if g.txClear then .txClear
    else if g.txLoad then .txLoad (Command.ofSelector g.txCmdIn) g.txPayloadIn
    else if g.txErr then .txStepE g.txErrCode else if g.txReady then .txStepA else .txStepW := by
  have hword := g.ctrlTx_toNat
  have hrst := g.rst.toNat_le
  have hclear := g.txClear.toNat_le
  have hload := g.txLoad.toNat_le
  have herr := g.txErr.toNat_le
  have hready := g.txReady.toNat_le
  have hbit22 : bitAt g.ctrlTx.toNat 22 = g.rst := bitAt_eq_of_toNat (by omega)
  have hbit21 : bitAt g.ctrlTx.toNat 21 = g.txClear := bitAt_eq_of_toNat (by omega)
  have hbit20 : bitAt g.ctrlTx.toNat 20 = g.txLoad := bitAt_eq_of_toNat (by omega)
  have hbit19 : bitAt g.ctrlTx.toNat 19 = g.txErr := bitAt_eq_of_toNat (by omega)
  have hbit18 : bitAt g.ctrlTx.toNat 18 = g.txReady := bitAt_eq_of_toNat (by omega)
  have hcmd : BitVec.ofNat 2 (g.ctrlTx.toNat / 2 ^ 16) = g.txCmdIn := by
    apply BitVec.eq_of_toNat_eq
    rw [BitVec.toNat_ofNat]
    omega
  have hpayload : BitVec.ofNat 16 g.ctrlTx.toNat = g.txPayloadIn := by
    apply BitVec.eq_of_toNat_eq
    rw [BitVec.toNat_ofNat]
    omega
  rw [decodeCtrlTx, hbit22, hbit21, hbit20, hbit19, hbit18, hcmd, hpayload]

/-- Settles O5: the two words, each by its own lemma. -/
theorem controlWordsSelectByPriority : Obligations.ControlWordsSelectByPriority := fun g =>
  ⟨g.decodeCtrlRx_ctrlRx, g.decodeCtrlTx_ctrlTx⟩

/-! ### The words of the encoder -/

/-- The bytes of a `CTRL_RX` packet carry the word to the decoder (log 9). -/
theorem decode_ctrlRxPacket (w : BitVec 11) : decode (ctrlRxPacket w) = .ok (decodeCtrlRx w) := by
  have hnumber : controlNumber [byteOf w.toNat 0, byteOf w.toNat 1] = w.toNat := by
    simp only [controlNumber, byteOf_toNat]
    omega
  simp [decode, ctrlRxPacket, hnumber, w.isLt]

/-- The bytes of a `CTRL_TX` packet carry the word to the decoder, with `tx_err_code` beside it (log 9). -/
theorem decode_ctrlTxPacket (w : BitVec 23) (e : ErrCode) : decode (ctrlTxPacket w e) = .ok (decodeCtrlTx w e) := by
  have hnumber : controlNumber [byteOf w.toNat 0, byteOf w.toNat 1, byteOf w.toNat 2] = w.toNat := by
    simp only [controlNumber, byteOf_toNat]
    omega
  simp [decode, ctrlTxPacket, hnumber, w.isLt]

/-- A cycle that requests nothing. -/
def Signals.idle : Signals where
  rst := false
  rxClear := false
  rxValid := false
  rxData := 0#8
  txClear := false
  txLoad := false
  txCmdIn := 0#2
  txPayloadIn := 0#16
  txReady := false
  txErr := false
  txErrCode := 0

theorem decode_ctrlRxPacket_of_signals (g : Signals) : decode (ctrlRxPacket g.ctrlRx) = .ok (
    if g.rst then .reset else if g.rxClear then .rxClear else if g.rxValid then .rxByte g.rxData else .rxNop) := by
  rw [decode_ctrlRxPacket, g.decodeCtrlRx_ctrlRx]

theorem decode_ctrlTxPacket_of_signals (g : Signals) : decode (ctrlTxPacket g.ctrlTx g.txErrCode) = .ok (
    if g.rst then .reset else if g.txClear then .txClear
    else if g.txLoad then .txLoad (Command.ofSelector g.txCmdIn) g.txPayloadIn
    else if g.txErr then .txStepE g.txErrCode else if g.txReady then .txStepA else .txStepW) := by
  rw [decode_ctrlTxPacket, g.decodeCtrlTx_ctrlTx]

@[simp] theorem Command.ofSelector_selector (c : Command) : Command.ofSelector c.selector = c := by
  cases c <;> rfl

/-- `RX.BYTE(b)` is encoded as the word of the cycle that only delivers `b`. -/
theorem encode_rxByte (b : Byte) :
    encode (.rxByte b) = ctrlRxPacket { Signals.idle with rxValid := true, rxData := b }.ctrlRx := by
  simp [encode, Signals.ctrlRx, Signals.idle]

/-- `TX.LOAD(c, p)` is encoded as the word of the cycle that only loads `c` and `p`. -/
theorem encode_txLoad (c : Command) (p : Half) : encode (.txLoad c p) =
    ctrlTxPacket { Signals.idle with txLoad := true, txCmdIn := c.selector, txPayloadIn := p }.ctrlTx 0 := by
  simp [encode, Signals.ctrlTx, Signals.idle]

theorem decode_encode_rxByte (b : Byte) : decode (encode (.rxByte b)) = .ok (.rxByte b) := by
  rw [encode_rxByte]
  exact decode_ctrlRxPacket_of_signals { Signals.idle with rxValid := true, rxData := b }

theorem decode_encode_txLoad (c : Command) (p : Half) : decode (encode (.txLoad c p)) = .ok (.txLoad c p) := by
  rw [encode_txLoad]
  refine (decode_ctrlTxPacket_of_signals
    { Signals.idle with txLoad := true, txCmdIn := c.selector, txPayloadIn := p }).trans ?_
  simp [Signals.idle]

/-- The word of `TX.STEP(Error(e))` is fixed; the value on `tx_err_code` is passed through, whatever it is. -/
theorem decode_encode_txStepE (e : ErrCode) : decode (encode (.txStepE e)) = .ok (.txStepE e) :=
  decode_ctrlTxPacket _ e

end Sys2Proof
end

section
/-!
PROOFS. The frames of the two wires (spec/30_encoding.md sections 1 and 2): the decoder answers exactly on the frames the encoder
writes, so decode and encode agree in both directions.
-/

namespace Sys2Proof

/-! ### A half and its two bytes -/

@[simp] theorem hi_be16 (a b : Byte) : hi (be16 a b) = a := by
  apply BitVec.eq_of_toNat_eq
  rw [hi_toNat, be16_toNat]
  omega

@[simp] theorem lo_be16 (a b : Byte) : lo (be16 a b) = b := by
  apply BitVec.eq_of_toNat_eq
  rw [lo_toNat, be16_toNat]
  omega

@[simp] theorem be16_hi_lo (v : Half) : be16 (hi v) (lo v) = v :=
  BitVec.eq_of_toNat_eq ((be16_toNat _ _).trans (hi_lo_toNat v))

/-! ### Command frames (R45 to R48) -/

/-- `i` is the row of the opcode table that sends the command `c` with payload `p`. -/
def Instr.IsCommandRow (i : Instr) (c : Command) (p : Half) : Prop :=
  (i = .cmdSetMode p ∧ c = .setMode) ∨ (i = .cmdReadPassive p ∧ c = .readPassive) ∨ (i = .cmdSetSleep p ∧ c = .setSleep)

section
variable {i : Instr} {c : Command} {p : Half}

theorem Instr.IsCommandRow.ne_none (h : i.IsCommandRow c p) : c ≠ .none := by
  obtain ⟨-, rfl⟩ | ⟨-, rfl⟩ | ⟨-, rfl⟩ := h <;> decide

theorem Instr.IsCommandRow.wellFormed (h : i.IsCommandRow c p) : i.wellFormed = true := by
  obtain ⟨rfl, -⟩ | ⟨rfl, -⟩ | ⟨rfl, -⟩ := h <;> rfl

/-- A command row is encoded as its command's frame. -/
theorem Instr.IsCommandRow.encode_eq (h : i.IsCommandRow c p) : encode i = ⟨.txWire, commandFrame c p, 0⟩ := by
  obtain ⟨rfl, rfl⟩ | ⟨rfl, rfl⟩ | ⟨rfl, rfl⟩ := h <;> rfl

/-- The frame of a command row is decoded to the row. -/
theorem Instr.IsCommandRow.decodeTxWire_commandFrame (h : i.IsCommandRow c p) :
    decodeTxWire (commandFrame c p) = .ok i := by
  obtain ⟨rfl, rfl⟩ | ⟨rfl, rfl⟩ | ⟨rfl, rfl⟩ := h <;>
    simp [decodeTxWire, commandFrame, commandFrameOf, Command.ofCode, Command.code]

end

theorem Command.code_of_ofCode {b : Byte} {c : Command} (h : Command.ofCode b = some c) : c.code = b := by
  unfold Command.ofCode at h
  split_ifs at h with hmode hpassive hsleep <;> (cases h; symm; assumption)

/-- The checksum bytes of a frame that the decoder takes are the two bytes of the command's checksum (log 15). -/
theorem commandFrame_eq {c : Command} {b h l ch cl : Byte} (hcode : Command.ofCode b = some c)
    (hsum : be16 ch cl = commandChecksum c (be16 h l)) : [magic1, magic2, b, h, l, ch, cl] = commandFrame c (be16 h l) := by
  rw [commandFrame, ← hsum, commandFrameOf, hi_be16, lo_be16, hi_be16, lo_be16, Command.code_of_ofCode hcode]

/-- What is read from TX wire bytes is a command row, and the bytes are its command's frame. -/
theorem decodeTxWire_eq_ok {bs : List Byte} {i : Instr} (h : decodeTxWire bs = .ok i) :
    ∃ c p, i.IsCommandRow c p ∧ bs = commandFrame c p := by
  unfold decodeTxWire at h
  split at h
  case h_2 => cases h
  case h_1 m1 m2 b hi lo ckHi ckLo =>
    have hm1 : m1 = magic1 := by_contra fun hne => by simp [hne] at h
    have hm2 : m2 = magic2 := by_contra fun hne => by simp [hm1, hne] at h
    subst hm1 hm2
    rw [if_neg (not_not.mpr rfl), if_neg (not_not.mpr rfl)] at h
    split at h
    case h_1 hcode =>
      split_ifs at h with hsum
      cases h
      exact ⟨.setMode, _, .inl ⟨rfl, rfl⟩, commandFrame_eq hcode hsum⟩
    case h_2 hcode =>
      split_ifs at h with hsum
      cases h
      exact ⟨.readPassive, _, .inr (.inl ⟨rfl, rfl⟩), commandFrame_eq hcode hsum⟩
    case h_3 hcode =>
      split_ifs at h with hsum
      cases h
      exact ⟨.setSleep, _, .inr (.inr ⟨rfl, rfl⟩), commandFrame_eq hcode hsum⟩
    case h_4 => cases h

/-! ### Response frames (R50 to R55) -/

/-- The wire bytes of the record at `f` are the 24 bytes at `f`. -/
theorem SensorData.bytes_ofBytes (f : Nat → Byte) : (SensorData.ofBytes f).bytes = (List.range 24).map f := by
  simp [SensorData.bytes, SensorData.ofBytes, List.range_succ]

/-- The record at a list that begins with a record's wire bytes is that record. -/
theorem SensorData.ofBytes_bytes_append (d : SensorData) (bs : List Byte) :
    SensorData.ofBytes (fun i => (d.bytes ++ bs).getD i 0#8) = d := by
  simp [SensorData.bytes, SensorData.ofBytes]

/-- The bytes of a measurement frame give back its operands. -/
theorem measurementOfBody_measurementBody (d : SensorData) (r0 r1 : Byte) (ck : Half) :
    measurementOfBody (measurementBody d r0 r1 ck) = .frameMeas d r0 r1 ck := by
  rw [measurementOfBody, measurementBody, d.ofBytes_bytes_append]
  simp [SensorData.bytes]

/-- The operands read from the 28 bytes of a measurement frame give back the bytes. -/
theorem measurementBody_of_length {body : List Byte} (h : body.length = 28) :
    measurementBody (SensorData.ofBytes fun i => body.getD i 0#8) (body.getD 24 0#8) (body.getD 25 0#8)
      (be16 (body.getD 26 0#8) (body.getD 27 0#8)) = body := by
  have hall : (List.range 28).map (fun i => body.getD i 0#8) = body := by
    apply List.ext_getElem (by simp [h])
    intro i _ hi
    simp [List.getD_eq_getElem?_getD, hi]
  rw [measurementBody, SensorData.bytes_ofBytes, hi_be16, lo_be16]
  exact hall

/-- A frame whose length the parser accepts is decoded, to the row `FRAME.MEAS` when the length is 28 (log 8). -/
theorem decodeRxWire_responseFrame {len : Byte} {body : List Byte} (hle : len.toNat ≤ 32) (hbody : body.length = len.toNat) :
    decodeRxWire (responseFrame len body) = .ok (if len = 28#8 then measurementOfBody body else .frameResp len body) := by
  simp only [decodeRxWire, responseFrame, ne_eq, not_true_eq_false, if_false, Nat.not_lt.mpr hle, hbody]
  split <;> rfl

/-- What is read from RX wire bytes stands in a frame of an accepted length. -/
theorem decodeRxWire_eq_ok {bs : List Byte} {i : Instr} (h : decodeRxWire bs = .ok i) :
    ∃ len body, bs = responseFrame len body ∧ len.toNat ≤ 32 ∧ body.length = len.toNat ∧
      i = if len = 28#8 then measurementOfBody body else .frameResp len body := by
  unfold decodeRxWire at h
  split at h
  case h_2 => cases h
  case h_1 m1 m2 lenHi len body =>
    split_ifs at h with hm1 hm2 hhigh hlen hbody h28
    all_goals
      rw [not_not] at hm1 hm2 hhigh hbody
      refine ⟨len, body, by rw [hm1, hm2, hhigh, responseFrame], Nat.not_lt.mp hlen, hbody, ?_⟩
      cases h
      simp [h28]

/-- A frame on the RX wire is encoded as its bytes, whichever of the two rows it is. -/
theorem encode_of_responseFrame {len : Byte} {body : List Byte} (hbody : body.length = len.toNat) :
    encode (if len = 28#8 then measurementOfBody body else .frameResp len body) =
      ⟨.rxWire, responseFrame len body, 0⟩ := by
  split
  case isTrue h28 =>
    subst h28
    rw [measurementOfBody, encode, measurementFrame, measurementBody_of_length hbody]
  case isFalse => rfl

/-! ### The obligations about encodings -/

/-- Settles O3: the decoder answers only on frames, and a frame's row is encoded as the frame. -/
theorem wireFrameEncodesBackToItsBytes : Obligations.WireFrameEncodesBackToItsBytes := by
  rintro ⟨channel, bytes, errCode⟩ i (rfl | rfl) hdecode
  · obtain ⟨len, body, rfl, -, hbody, rfl⟩ := decodeRxWire_eq_ok hdecode
    rw [encode_of_responseFrame hbody]
    exact ⟨rfl, rfl⟩
  · obtain ⟨c, p, hrow, rfl⟩ := decodeTxWire_eq_ok hdecode
    rw [hrow.encode_eq]
    exact ⟨rfl, rfl⟩

theorem decodeCtrlRx_wellFormed (w : BitVec 11) : (decodeCtrlRx w).wellFormed = true := by
  unfold decodeCtrlRx
  split_ifs <;> rfl

theorem decodeCtrlTx_wellFormed (w : BitVec 23) (e : ErrCode) : (decodeCtrlTx w e).wellFormed = true := by
  unfold decodeCtrlTx
  split_ifs <;> rfl

/-- Settles O2: by channel; only a response frame has anything to check, and the decoder has checked it. -/
theorem decodedInstructionIsWellFormed : Obligations.DecodedInstructionIsWellFormed := by
  rintro ⟨channel, bytes, errCode⟩ i hdecode
  cases channel with
  | ctrlRx =>
    simp only [decode] at hdecode
    split_ifs at hdecode
    cases hdecode
    exact decodeCtrlRx_wellFormed _
  | ctrlTx =>
    simp only [decode] at hdecode
    split_ifs at hdecode
    cases hdecode
    exact decodeCtrlTx_wellFormed _ _
  | queryValidate | queryDecode =>
    simp only [decode] at hdecode
    split_ifs at hdecode
    cases hdecode
    rfl
  | rxWire =>
    obtain ⟨len, body, rfl, hle, hbody, rfl⟩ := decodeRxWire_eq_ok hdecode
    split
    case isTrue => rfl
    case isFalse h28 => simp [Instr.wellFormed, hle, hbody, h28]
  | txWire =>
    obtain ⟨c, p, hrow, -⟩ := decodeTxWire_eq_ok hdecode
    exact hrow.wellFormed

/-- Settles O1: each row by its format; a control word selects the one operation it was made for, a frame is decoded to the row
it is the frame of. -/
theorem encodedInstructionDecodesBack : Obligations.EncodedInstructionDecodesBack := by
  intro i hwf
  cases i with
  | reset | rxClear | rxNop => exact decode_ctrlRxPacket _
  | rxByte b => exact decode_encode_rxByte b
  | rxValidate | rxDecode => rfl
  | txClear | txStepA | txStepW => exact decode_ctrlTxPacket _ 0
  | txLoad c p => exact decode_encode_txLoad c p
  | txStepE e => exact decode_encode_txStepE e
  | cmdSetMode p => exact Instr.IsCommandRow.decodeTxWire_commandFrame (.inl ⟨rfl, rfl⟩)
  | cmdReadPassive p => exact Instr.IsCommandRow.decodeTxWire_commandFrame (.inr (.inl ⟨rfl, rfl⟩))
  | cmdSetSleep p => exact Instr.IsCommandRow.decodeTxWire_commandFrame (.inr (.inr ⟨rfl, rfl⟩))
  | frameResp len body =>
    simp only [Instr.wellFormed, Bool.and_eq_true, decide_eq_true_eq] at hwf
    obtain ⟨⟨hle, hbody⟩, h28⟩ := hwf
    exact (decodeRxWire_responseFrame hle hbody).trans (congrArg Except.ok (if_neg h28))
  | frameMeas d r0 r1 ck =>
    have hframe := decodeRxWire_responseFrame (len := 28#8) (body := measurementBody d r0 r1 ck) (by decide) rfl
    rwa [if_pos rfl, measurementOfBody_measurementBody] at hframe

/-- Settles O6: the codes of the three commands are `0xE1` to `0xE4`, so five bytes sum to at most `0x42 + 0x4D + 0xE4 + 510`,
which is `0x0371`. -/
theorem commandChecksumNeverWraps : Obligations.CommandChecksumNeverWraps := by
  intro c p hc
  have hcode : 0xE1 ≤ c.code.toNat ∧ c.code.toNat ≤ 0xE4 := by
    cases c with
    | none => exact absurd rfl hc
    | readPassive | setMode | setSleep => decide
  have hhigh : p.toNat / 256 ≤ 255 := by omega
  have hlow : p.toNat % 256 ≤ 255 := by omega
  rw [commandChecksum_toNat, Nat.mod_eq_of_lt (by omega)]
  omega

/-- Settles O4: the decoder evaluates the seven words. -/
theorem specWordsDecodeToTheirOperations : Obligations.SpecWordsDecodeToTheirOperations := by
  unfold Obligations.SpecWordsDecodeToTheirOperations
  decide

/-- Settles O7: the encoder evaluates the five frames. -/
theorem driverCommandFrames : Obligations.DriverCommandFrames := by
  unfold Obligations.DriverCommandFrames
  decide

end Sys2Proof
end

section
/-!
PROOFS. The frame of `RX.BYTE` (spec/20_memory.md R33) and its rejections (spec/30_encoding.md R57), stated of every state.
-/

namespace Sys2Proof.Machine

/-- A rejected byte only resynchronises the parser (R57, R113). -/
theorem State.rxByte_of_rejected (s : State) (b : Byte) (h : s.rx.passes b = false) :
    s.rxByte b = { s with rx := { s.rx with cursor := 0#6, done := false }, results := s.results ++ [.byte false] } :=
  Host.Outcome.next.inj (exec_rxByte_rejected s b h)

/-- A byte changes no cell but the one at the cursor, whether or not it is accepted. -/
theorem State.cell_rxByte_of_ne (s : State) (b : Byte) (i : Nat) (hi : i ≠ s.rx.cursor.toNat) :
    (s.rxByte b).cell i = s.cell i := by
  cases hpass : s.rx.passes b with
  | true => rw [s.cell_rxByte_of_passes b hpass, if_neg (hi ·.1)]
  | false =>
    rw [s.rxByte_of_rejected b hpass]
    rfl

/-- A byte changes the declared length at offset 3 only (R69). -/
theorem State.rxByte_length_of_ne_three (s : State) (b : Byte) (h : s.rx.cursor.toNat ≠ 3) :
    (s.rxByte b).rx.length = s.rx.length := by
  cases hpass : s.rx.passes b with
  | true => rw [s.rxByte_length_of_passes b hpass, RxState.nextLength, if_neg h]
  | false => rw [s.rxByte_of_rejected b hpass]

/-- Settles O17: the state after the byte, field by field. -/
theorem rxByteTouchesOneCell : Obligations.RxByteTouchesOneCell := fun s b =>
  ⟨s.rxByte b, exec_rxByte s b, s.cell_rxByte_of_ne b, s.rxByte_length_of_ne_three b, rfl, rfl, rfl, rfl⟩

/-- Settles O19: each of the four cases is a byte that fails the check of its offset. -/
theorem rejectedByteOnlyResynchronises : Obligations.RejectedByteOnlyResynchronises := by
  intro s b hrejected
  apply exec_rxByte_rejected
  obtain ⟨hcur, hb⟩ | ⟨hcur, hb⟩ | ⟨hcur, hb⟩ | ⟨hcur, hb⟩ := hrejected
  · rw [s.rx.passes_offset0 b hcur, decide_eq_false hb]
  · rw [s.rx.passes_offset1 b hcur, decide_eq_false hb]
  · rw [s.rx.passes_offset2 b hcur, decide_eq_false hb]
  · rw [s.rx.passes_offset3 b hcur, decide_eq_false (by omega)]

end Sys2Proof.Machine
end

section
/-!
PROOFS. One step of the machine (log 1): by whether an input is pending, and by what the next one is.
-/

namespace Sys2Proof.Machine

theorem step_of_inputs_nil {s : State} (h : s.inputs = []) : step s = .next s := by
  rw [step, h]

theorem step_of_inputs_cons {s : State} {x : Input} {rest : List Input} (h : s.inputs = x :: rest) :
    step s = runInput x (s.taken rest) := by
  rw [step, h]

theorem runPacket_of_ok {p : Packet} {i : Instr} (s : State) (h : decode p = .ok i) : runPacket p s = exec i s := by
  rw [runPacket, h]

theorem runPacket_of_error {p : Packet} {why : DecodeError} (s : State) (h : decode p = .error why) :
    runPacket p s = runRejected p why s := by
  rw [runPacket, h]

theorem runRejected_of_rxWire {p : Packet} (why : DecodeError) (s : State) (h : p.channel = .rxWire) :
    runRejected p why s = .next (State.deliver id p.bytes s) := by
  rw [runRejected, h]

theorem runRejected_of_ne_rxWire {p : Packet} (why : DecodeError) (s : State) (h : p.channel ≠ .rxWire) :
    runRejected p why s = .refused (.notAnEncoding why) := by
  unfold runRejected
  split
  case h_1 hwire => exact absurd hwire h
  case h_2 => rfl

theorem andThen_eq_next {a : Answer} {f : State → Answer} {t : State} (h : andThen a f = .next t) :
    ∃ s, a = .next s ∧ f s = .next t := by
  cases a with
  | next s => exact ⟨s, rfl, h⟩
  | fault r | refused r => cases h

/-- Settles O49. -/
theorem blockNeverActsOnItsOwn : Obligations.BlockNeverActsOnItsOwn := fun _ h => step_of_inputs_nil h

/-- Settles O48: a packet that decodes is run as what it decodes to. -/
theorem stepRunsTheDecodedInstruction : Obligations.StepRunsTheDecodedInstruction := by
  intro s p rest i hinputs hdecode
  exact (step_of_inputs_cons hinputs).trans (runPacket_of_ok (s.taken rest) hdecode)

/-- Settles O23. -/
theorem rxNopChangesNothing : Obligations.RxNopChangesNothing := exec_rxNop

end Sys2Proof.Machine
end

section
/-!
PROOFS. `RESET` and the start state (spec/70_reset_and_hazards.md section 1, spec/10_state.md section 5).
-/

namespace Sys2Proof.Machine

theorem clockEdge_of_rst {g : Signals} (s : State) (h : g.rst = true) : clockEdge g s = .next s.resetOnce :=
  if_pos h

/-- Settles O8: the registers and outputs are those of the empty sub-blocks, and the draw is the next one. -/
theorem resetEmptiesBothSubBlocks : Obligations.ResetEmptiesBothSubBlocks := fun s =>
  ⟨s.resetOnce, exec_reset s, rfl, rfl, rfl, fun _ _ => rfl, s.draw.succ_ne_self, rfl, rfl, rfl, rfl, rfl, rfl, rfl, rfl, rfl,
    fun _ hrst => clockEdge_of_rst s hrst⟩

/-- Settles O9. -/
theorem startStateHoldsTheResetValues : Obligations.StartStateHoldsTheResetValues :=
  ⟨rfl, rfl, rfl, fun _ _ => rfl, rfl, rfl, rfl, rfl, rfl, rfl⟩

/-- Settles O10: `RESET` keeps nothing of the power-on state but its empty wire, results and inputs, and counts its draw. -/
theorem oneResetFromPowerOnIsEnough : Obligations.OneResetFromPowerOnIsEnough := rfl

end Sys2Proof.Machine
end

section
/-!
PROOFS. The machine's invariant (R14, R21, and the buffer's canonical form, log 3): it speaks of the registers and the draw only,
each operation keeps it, and so does every step.
-/

namespace Sys2Proof.Machine

section
variable {s t : State} {b : Byte}

/-! ### The RX state (R14) -/

/-- The RX invariant depends on the RX registers and the draw only. -/
theorem State.RxInv.congr (h : s.RxInv) (hrx : t.rx = s.rx) (hdraw : t.draw = s.draw) : t.RxInv := by
  have hcell : t.cell = s.cell := funext fun i => s.cell_congr t (congrArg RxState.buf hrx) hdraw i
  obtain ⟨hcur, hlen, h0, h1, h2, hpos, h3, hin, hdone, hheader⟩ := h
  constructor <;> simpa only [hrx, hcell]

/-- Before offset 4, and while no frame is reported, the RX invariant speaks of the header bytes received so far alone. -/
theorem State.rxInv_of_cursor_le_three (hcur : t.rx.cursor.toNat ≤ 3) (hdone : t.rx.done = false)
    (hlen : t.rx.length.toNat ≤ 32) (h0 : 1 ≤ t.rx.cursor.toNat → t.cell 0 = 0x42#8)
    (h1 : 2 ≤ t.rx.cursor.toNat → t.cell 1 = 0x4D#8) (h2 : 3 ≤ t.rx.cursor.toNat → t.cell 2 = 0x00#8) : t.RxInv where
  cursor_le := by omega
  length_le := hlen
  magic1_held := h0
  magic2_held := h1
  lenHi_held := h2
  length_pos := by omega
  length_held := by omega
  cursor_in_frame := by omega
  done_cursor := by simp [hdone]
  done_header := by simp [hdone]

/-- A parser at offset 0 that reports no frame meets the RX invariant whatever the buffer holds. -/
theorem State.rxInv_of_idle (hcur : t.rx.cursor = 0#6) (hdone : t.rx.done = false) (hlen : t.rx.length.toNat ≤ 32) :
    t.RxInv :=
  State.rxInv_of_cursor_le_three (by simp [hcur]) hdone hlen (by simp [hcur]) (by simp [hcur]) (by simp [hcur])

/-- While the four header bytes stand in the buffer, it is the cursor alone that the RX invariant speaks of. -/
theorem State.rxInv_of_header (h0 : t.cell 0 = 0x42#8) (h1 : t.cell 1 = 0x4D#8) (h2 : t.cell 2 = 0x00#8)
    (h3 : (t.cell 3).toNat = t.rx.length.toNat) (hlen : t.rx.length.toNat ≤ 32)
    (hin : 4 ≤ t.rx.cursor.toNat → 1 ≤ t.rx.length.toNat ∧ t.rx.cursor.toNat ≤ t.rx.length.toNat + 3)
    (hdone : t.rx.done = true → t.rx.cursor = 0#6) : t.RxInv where
  cursor_le := by omega
  length_le := hlen
  magic1_held := fun _ => h0
  magic2_held := fun _ => h1
  lenHi_held := fun _ => h2
  length_pos := fun hcur => (hin hcur).1
  length_held := fun _ => h3
  cursor_in_frame := fun hcur => (hin hcur).2
  done_cursor := hdone
  done_header := fun _ => ⟨h0, h1, h2, h3⟩

/-- A header byte accepted before the length field keeps the RX invariant (R66 to R68). -/
theorem State.RxInv.rxByte_of_lt_three (h : s.RxInv) (hpass : s.rx.passes b = true) (hlt : s.rx.cursor.toNat < 3) :
    (s.rxByte b).RxInv := by
  obtain ⟨t, hexec, hcur, hlength, hdone, hcells, -⟩ := exec_rxByte_header_passed s b _ rfl hlt hpass
  have ht : s.rxByte b = t := Host.Outcome.next.inj hexec
  rw [ht]
  apply State.rxInv_of_cursor_le_three (by omega) hdone (hlength ▸ h.length_le)
  · intro _
    rcases Nat.eq_zero_or_pos s.rx.cursor.toNat with hk | hpos
    · simpa [hcells, hk, s.rx.passes_offset0 b hk] using hpass
    · rw [hcells, if_neg (by omega), h.magic1_held hpos]
  · intro _
    rcases Nat.lt_or_ge s.rx.cursor.toNat 2 with hlt2 | hge2
    · have hk : s.rx.cursor.toNat = 1 := by omega
      simpa [hcells, hk, s.rx.passes_offset1 b hk] using hpass
    · rw [hcells, if_neg (by omega), h.magic2_held hge2]
  · intro _
    have hk : s.rx.cursor.toNat = 2 := by omega
    simpa [hcells, hk, s.rx.passes_offset2 b hk] using hpass

/-- An accepted length byte completes the header (R69). -/
theorem State.RxInv.rxByte_of_eq_three (h : s.RxInv) (hpass : s.rx.passes b = true) (hcur : s.rx.cursor.toNat = 3) :
    (s.rxByte b).RxInv := by
  have hle : b.toNat ≤ 32 := by simpa [s.rx.passes_offset3 b hcur] using hpass
  obtain ⟨t, hexec, hlength, hcursor, hdone, hcells, -⟩ := (offsetThreeTakesTheLength s b hcur).2 hle
  obtain rfl : s.rxByte b = t := Host.Outcome.next.inj hexec
  apply State.rxInv_of_header
  · simp [hcells, h.magic1_held (by omega)]
  · simp [hcells, h.magic2_held (by omega)]
  · simp [hcells, h.lenHi_held (by omega)]
  · rw [hcells, if_pos rfl, hlength]
  · omega
  · rw [hcursor, hlength]
    split <;> omega
  · intro htrue
    have hzero : b.toNat = 0 := of_decide_eq_true (hdone.symm.trans htrue)
    exact BitVec.eq_of_toNat_eq (by rw [hcursor, if_pos hzero]; rfl)

/-- A byte after the header leaves the header alone and stays inside the frame (R70). -/
theorem State.RxInv.rxByte_of_four_le (h : s.RxInv) (hcur : 4 ≤ s.rx.cursor.toNat) : (s.rxByte b).RxInv := by
  obtain ⟨t, hexec, hcells, hlength, hcursor, hdone, -⟩ := offsetFourOnBuffersVerbatim s b hcur h.cursor_le
  obtain rfl : s.rxByte b = t := Host.Outcome.next.inj hexec
  have hheader : ∀ i, i < 4 → (s.rxByte b).cell i = s.cell i := fun i hi =>
    s.cell_rxByte_of_ne b i (by omega)
  have hin := h.cursor_in_frame hcur
  apply State.rxInv_of_header
  · rw [hheader 0 (by decide), h.magic1_held (by omega)]
  · rw [hheader 1 (by decide), h.magic2_held (by omega)]
  · rw [hheader 2 (by decide), h.lenHi_held (by omega)]
  · rw [hheader 3 (by decide), hlength, h.length_held hcur]
  · rw [hlength]
    exact h.length_le
  · have hpos := h.length_pos hcur
    rw [hcursor, hlength]
    split <;> omega
  · intro htrue
    have hlast : s.rx.length.toNat + 3 ≤ s.rx.cursor.toNat := of_decide_eq_true (hdone.symm.trans htrue)
    exact BitVec.eq_of_toNat_eq (by rw [hcursor, if_pos hlast]; rfl)

/-- `RX.BYTE` keeps the RX invariant, by whether its offset rejects the byte and by the offset. -/
theorem State.RxInv.rxByte (h : s.RxInv) : (s.rxByte b).RxInv := by
  cases hpass : s.rx.passes b with
  | false =>
    rw [s.rxByte_of_rejected b hpass]
    exact State.rxInv_of_idle rfl rfl h.length_le
  | true =>
    rcases Nat.lt_trichotomy s.rx.cursor.toNat 3 with hlt | heq | hgt
    · exact h.rxByte_of_lt_three hpass hlt
    · exact h.rxByte_of_eq_three hpass heq
    · exact h.rxByte_of_four_le hgt

/-- A byte keeps the buffer's canonical form. -/
theorem State.rxByte_buf_wf (h : s.rx.buf.wf = true) : (s.rxByte b).rx.buf.wf = true := by
  cases hpass : s.rx.passes b with
  | true =>
    rw [State.rxByte_rx, s.rx.byte_passed b hpass]
    exact Memory.wf_write s.rx.buf _ b h
  | false =>
    rw [s.rxByte_of_rejected b hpass]
    exact h

/-! ### The TX state (R21) -/

/-- A step changes no TX register that the TX invariant speaks of. -/
theorem State.TxInv.txStep (h : s.TxInv) (a : TxAnswer) : (s.txStep a).TxInv := by
  unfold State.TxInv
  rw [State.txStep_tx, s.tx.attempt_registers a]
  exact h

/-- A load writes the checksum of what it loads, which never wraps (R91); a refused one writes nothing. -/
theorem State.TxInv.txLoad (h : s.TxInv) (c : Command) (p : Half) : (s.txLoad c p).TxInv := by
  by_cases haccepts : s.tx.accepts c = true
  · obtain ⟨-, hc⟩ := (s.tx.accepts_iff c).mp haccepts
    obtain ⟨hsum, -⟩ := commandChecksumNeverWraps c p hc
    rw [s.txLoad_of_accepts c p haccepts]
    intro _
    simpa [TxState.loaded] using hsum
  · rw [s.txLoad_of_not_accepts c p haccepts]
    exact h

/-! ### Each operation -/

/-- The invariant depends on the registers and the draw only. -/
theorem State.Inv.congr (h : s.Inv) (hrx : t.rx = s.rx) (htx : t.tx = s.tx) (hdraw : t.draw = s.draw) : t.Inv where
  rx := h.rx.congr hrx hdraw
  tx := by
    unfold State.TxInv
    rw [htx]
    exact h.tx
  buf := by
    rw [hrx]
    exact h.buf

/-- An operation that leaves the RX registers alone keeps the invariant if it keeps that of the TX state. -/
theorem State.Inv.of_rx_eq (h : s.Inv) (hrx : t.rx = s.rx) (hdraw : t.draw = s.draw) (htx : t.TxInv) : t.Inv where
  rx := h.rx.congr hrx hdraw
  tx := htx
  buf := by
    rw [hrx]
    exact h.buf

theorem State.Inv.resetOnce (s : State) : s.resetOnce.Inv where
  rx := State.rxInv_of_idle rfl rfl (Nat.zero_le 32)
  tx := fun hcmd => absurd rfl hcmd
  buf := rfl

theorem State.Inv.rxCleared (h : s.Inv) : s.rxCleared.Inv where
  rx := State.rxInv_of_idle rfl rfl h.rx.length_le
  tx := h.tx
  buf := h.buf

theorem State.Inv.rxByte (h : s.Inv) : (s.rxByte b).Inv where
  rx := h.rx.rxByte
  tx := h.tx
  buf := State.rxByte_buf_wf h.buf

theorem State.Inv.askValidate (h : s.Inv) : s.askValidate.Inv := h.congr rfl rfl rfl

theorem State.Inv.askDecode (h : s.Inv) : s.askDecode.Inv := h.congr rfl rfl rfl

theorem State.Inv.askMeasurement (h : s.Inv) : s.askMeasurement.Inv := by
  unfold State.askMeasurement
  split
  · exact h.askValidate.askDecode
  · exact h.askValidate

/-- Bytes of the RX wire keep the invariant if what is asked when they complete a frame does. -/
theorem State.Inv.deliver {query : State → State} (hquery : ∀ {u : State}, u.Inv → (query u).Inv) (bs : List Byte)
    (h : s.Inv) : (State.deliver query bs s).Inv := by
  induction bs generalizing s with
  | nil => exact h
  | cons b bs ih =>
    unfold State.deliver
    split
    · exact ih (hquery h.rxByte)
    · exact ih h.rxByte

theorem State.txLoad_draw (s : State) (c : Command) (p : Half) : (s.txLoad c p).draw = s.draw := by
  unfold State.txLoad
  split <;> rfl

theorem State.Inv.txLoad (h : s.Inv) (c : Command) (p : Half) : (s.txLoad c p).Inv :=
  h.of_rx_eq (s.txLoad_rx c p) (s.txLoad_draw c p) (h.tx.txLoad c p)

theorem State.Inv.txStep (h : s.Inv) (a : TxAnswer) : (s.txStep a).Inv := h.of_rx_eq rfl rfl (h.tx.txStep a)

theorem State.Inv.txCleared (h : s.Inv) : s.txCleared.Inv := h.of_rx_eq rfl rfl fun hcmd => absurd rfl hcmd

theorem State.Inv.acceptedSteps (n : Nat) (h : s.Inv) : (State.acceptedSteps n s).Inv := by
  induction n generalizing s with
  | zero => exact h
  | succ n ih => exact ih (h.txStep .accept)

theorem State.Inv.sendFrame (h : s.Inv) (c : Command) (p : Half) : (s.sendFrame c p).Inv := by
  unfold State.sendFrame
  split
  · exact (h.txLoad c p).acceptedSteps 7
  · exact h.txLoad c p

/-! ### Every operation, every clock edge, every step -/

theorem exec_keeps_inv {i : Instr} (h : s.Inv) (hexec : exec i s = .next t) : t.Inv := by
  cases i with
  | reset => cases hexec; exact .resetOnce s
  | rxClear => cases hexec; exact h.rxCleared
  | rxByte b => cases hexec; exact h.rxByte
  | rxNop => cases hexec; exact h
  | rxValidate => cases hexec; exact h.askValidate
  | rxDecode => cases hexec; exact h.askDecode
  | txClear => cases hexec; exact h.txCleared
  | txLoad c p => cases hexec; exact h.txLoad c p
  | txStepE e => cases hexec; exact h.txStep (.error e)
  | txStepA => cases hexec; exact h.txStep .accept
  | txStepW => cases hexec; exact h.txStep .wouldBlock
  | cmdSetMode p | cmdReadPassive p | cmdSetSleep p => cases hexec; exact h.sendFrame _ p
  | frameResp len body => cases hexec; exact h.deliver .askValidate _
  | frameMeas d r0 r1 ck => cases hexec; exact h.deliver .askMeasurement _

theorem clockEdge_keeps_inv {g : Signals} (h : s.Inv) (hedge : clockEdge g s = .next t) : t.Inv := by
  unfold clockEdge at hedge
  split at hedge
  · exact exec_keeps_inv h hedge
  · obtain ⟨u, hrx, htx⟩ := andThen_eq_next hedge
    have hu : u.Inv := exec_keeps_inv h hrx
    split at htx
    · exact exec_keeps_inv hu htx
    · cases htx
      exact hu

theorem runPacket_keeps_inv {p : Packet} (h : s.Inv) (hrun : runPacket p s = .next t) : t.Inv := by
  cases hdecode : decode p with
  | ok i =>
    rw [runPacket_of_ok s hdecode] at hrun
    exact exec_keeps_inv h hrun
  | error why =>
    rw [runPacket_of_error s hdecode] at hrun
    by_cases hwire : p.channel = .rxWire
    · rw [runRejected_of_rxWire why s hwire] at hrun
      cases hrun
      exact h.deliver id p.bytes
    · rw [runRejected_of_ne_rxWire why s hwire] at hrun
      cases hrun

end

/-- Settles O45: taking an input touches neither registers nor draw, and what is then run keeps the invariant. -/
theorem everyStepKeepsTheInvariant : Obligations.EveryStepKeepsTheInvariant := by
  intro s t h hstep
  cases hinputs : s.inputs with
  | nil =>
    rw [step_of_inputs_nil hinputs] at hstep
    cases hstep
    exact h
  | cons x rest =>
    have htaken : (s.taken rest).Inv := h.congr rfl rfl rfl
    rw [step_of_inputs_cons hinputs] at hstep
    cases x with
    | op p => exact runPacket_keeps_inv htaken hstep
    | clock g => exact clockEdge_keeps_inv htaken hstep

/-- Settles O46: the start state is what `RESET` leaves of the power-on state. -/
theorem startStateMeetsTheInvariant : Obligations.StartStateMeetsTheInvariant := State.Inv.resetOnce State.powerOn

end Sys2Proof.Machine
end

section
/-!
PROOFS. What each sub-block's operations read and write (R7, R39, R101): an RX operation takes the RX registers and the draw to
new RX registers and results, a TX operation takes the TX registers to new TX registers, wire bytes and results. So the operations
of one sub-block ignore the other, and the two commute.
-/

namespace Sys2Proof.Machine

/-! ### Updates of one sub-block -/

/-- The state with new RX registers, and results appended. -/
def State.withRx (s : State) (rx : RxState) (rs : List Result) : State := { s with rx := rx, results := s.results ++ rs }

/-- The state with new TX registers, and bytes and results appended. -/
def State.withTx (s : State) (tx : TxState) (out : List Byte) (rs : List Result) : State :=
  { s with tx := tx, txWire := s.txWire ++ out, results := s.results ++ rs }

/-- On every state with the RX registers and the draw of `s`, `f` does one and the same update of the RX sub-block. -/
def RxUpdate (f : State → State) (s : State) : Prop :=
  ∃ rx rs, ∀ u : State, u.rx = s.rx → u.draw = s.draw → f u = u.withRx rx rs

/-- On every state with the TX registers of `s`, `f` does one and the same update of the TX sub-block. -/
def TxUpdate (f : State → State) (s : State) : Prop :=
  ∃ tx out rs, ∀ u : State, u.tx = s.tx → f u = u.withTx tx out rs

theorem RxUpdate.comp {f g : State → State} {s : State} (hf : RxUpdate f s) (hg : RxUpdate g (f s)) :
    RxUpdate (fun u => g (f u)) s := by
  obtain ⟨rx, rs, hf⟩ := hf
  obtain ⟨rx', rs', hg⟩ := hg
  rw [hf s rfl rfl] at hg
  refine ⟨rx', rs ++ rs', fun u hrx hdraw => ?_⟩
  have hstep : g (f u) = (u.withRx rx rs).withRx rx' rs' := by
    rw [hf u hrx hdraw, hg (u.withRx rx rs) rfl hdraw]
  simpa [State.withRx] using hstep

theorem TxUpdate.comp {f g : State → State} {s : State} (hf : TxUpdate f s) (hg : TxUpdate g (f s)) :
    TxUpdate (fun u => g (f u)) s := by
  obtain ⟨tx, out, rs, hf⟩ := hf
  obtain ⟨tx', out', rs', hg⟩ := hg
  rw [hf s rfl] at hg
  refine ⟨tx', out ++ out', rs ++ rs', fun u htx => ?_⟩
  have hstep : g (f u) = (u.withTx tx out rs).withTx tx' out' rs' := by
    rw [hf u htx, hg (u.withTx tx out rs) rfl]
  simpa [State.withTx] using hstep

/-! ### RX operations -/

theorem RxUpdate.refl (s : State) : RxUpdate (fun u => u) s :=
  ⟨s.rx, [], fun u hrx _ => by simp [State.withRx, ← hrx]⟩

theorem RxUpdate.rxCleared (s : State) : RxUpdate State.rxCleared s :=
  ⟨{ s.rx with cursor := 0#6, done := false }, [], fun u hrx _ => by simp [State.rxCleared, State.withRx, hrx]⟩

theorem RxUpdate.rxByte (s : State) (b : Byte) : RxUpdate (fun u => u.rxByte b) s :=
  ⟨(s.rx.byte b).1, [.byte (s.rx.byte b).2], fun u hrx _ => by simp [State.rxByte, State.answer, State.withRx, hrx]⟩

/-- The cells of the buffer depend on the RX registers and the draw only. -/
theorem State.cell_eq_of_rx_eq {s u : State} (hrx : u.rx = s.rx) (hdraw : u.draw = s.draw) : u.cell = s.cell :=
  funext fun i => s.cell_congr u (congrArg RxState.buf hrx) hdraw i

theorem State.validate_eq_of_rx_eq {s u : State} (hrx : u.rx = s.rx) (hdraw : u.draw = s.draw) :
    u.validate = s.validate := by
  have hcell := State.cell_eq_of_rx_eq hrx hdraw
  have hsum : u.rxSum = s.rxSum := by simp only [State.rxSum, State.cells, hrx, hcell]
  have hchecksum : u.rxChecksum = s.rxChecksum := by simp only [State.rxChecksum, hrx, hcell]
  rw [State.validate, State.validate, hsum, hchecksum, hrx]

theorem State.decodeRecord_eq_of_rx_eq {s u : State} (hrx : u.rx = s.rx) (hdraw : u.draw = s.draw) :
    u.decodeRecord = s.decodeRecord := by
  simp only [State.decodeRecord, State.cell_eq_of_rx_eq hrx hdraw]

theorem RxUpdate.askValidate (s : State) : RxUpdate State.askValidate s :=
  ⟨s.rx, [.valid s.validate], fun u hrx hdraw => by
    simp [State.askValidate, State.answer, State.withRx, ← hrx, s.validate_eq_of_rx_eq hrx hdraw]⟩

theorem RxUpdate.askDecode (s : State) : RxUpdate State.askDecode s :=
  ⟨s.rx, [.record s.decodeRecord], fun u hrx hdraw => by
    simp [State.askDecode, State.answer, State.withRx, ← hrx, s.decodeRecord_eq_of_rx_eq hrx hdraw]⟩

/-- An update that is chosen by a test of the RX registers and the draw. -/
theorem RxUpdate.ite {f g : State → State} {test : State → Bool} {s : State}
    (htest : ∀ u : State, u.rx = s.rx → u.draw = s.draw → test u = test s) (hf : RxUpdate f s) (hg : RxUpdate g s) :
    RxUpdate (fun u => if test u then f u else g u) s := by
  cases hs : test s with
  | true =>
    obtain ⟨rx, rs, hf⟩ := hf
    exact ⟨rx, rs, fun u hrx hdraw => by simp [htest u hrx hdraw, hs, hf u hrx hdraw]⟩
  | false =>
    obtain ⟨rx, rs, hg⟩ := hg
    exact ⟨rx, rs, fun u hrx hdraw => by simp [htest u hrx hdraw, hs, hg u hrx hdraw]⟩

theorem RxUpdate.askMeasurement (s : State) : RxUpdate State.askMeasurement s :=
  .ite (fun _ => State.validate_eq_of_rx_eq) (.comp (.askValidate s) (.askDecode _)) (.askValidate s)

/-- Bytes of the RX wire update the RX sub-block, if what is asked when they complete a frame does. -/
theorem RxUpdate.deliver {query : State → State} (hquery : ∀ s, RxUpdate query s) (bs : List Byte) (s : State) :
    RxUpdate (State.deliver query bs) s := by
  induction bs generalizing s with
  | nil => exact .refl s
  | cons b bs ih =>
    exact .ite (test := fun u => (u.rxByte b).rx.done) (fun u hrx _ => by simp [hrx])
      (.comp (.comp (.rxByte s b) (hquery _)) (ih _)) (.comp (.rxByte s b) (ih _))

/-- Every RX operation updates the RX sub-block, and reads nothing else (R7). -/
theorem exec_rxOperation {i : Instr} (hi : isRxOperation i = true) (s : State) :
    ∃ f, RxUpdate f s ∧ ∀ u, exec i u = .next (f u) := by
  cases i with
  | rxClear => exact ⟨_, .rxCleared s, exec_rxClear⟩
  | rxByte b => exact ⟨_, .rxByte s b, (exec_rxByte · b)⟩
  | rxNop => exact ⟨_, .refl s, exec_rxNop⟩
  | rxValidate => exact ⟨_, .askValidate s, exec_rxValidate⟩
  | rxDecode => exact ⟨_, .askDecode s, exec_rxDecode⟩
  | frameResp len body => exact ⟨_, .deliver .askValidate _ s, (exec_frameResp · len body)⟩
  | frameMeas d r0 r1 ck => exact ⟨_, .deliver .askMeasurement _ s, (exec_frameMeas · d r0 r1 ck)⟩
  | _ => cases hi

/-! ### TX operations -/

theorem TxUpdate.refl (s : State) : TxUpdate (fun u => u) s :=
  ⟨s.tx, [], [], fun u htx => by simp [State.withTx, ← htx]⟩

theorem TxUpdate.txCleared (s : State) : TxUpdate State.txCleared s :=
  ⟨{ s.tx with cmd := .none }, [], [], fun u htx => by simp [State.txCleared, State.withTx, htx]⟩

theorem TxUpdate.txStep (s : State) (a : TxAnswer) : TxUpdate (fun u => u.txStep a) s :=
  ⟨(s.tx.attempt a).tx, (s.tx.attempt a).emitted, [.step (s.tx.attempt a).result], fun u htx => by
    simp [State.txStep, State.emit, State.answer, State.withTx, htx]⟩

theorem TxUpdate.txLoad (s : State) (c : Command) (p : Half) : TxUpdate (fun u => u.txLoad c p) s := by
  by_cases haccepts : s.tx.accepts c = true
  · refine ⟨TxState.loaded c p, [], [.load .accepted], fun u htx => ?_⟩
    simp [u.txLoad_of_accepts c p (htx ▸ haccepts), State.answer, State.withTx]
  · refine ⟨s.tx, [], [.load .refused], fun u htx => ?_⟩
    simp [u.txLoad_of_not_accepts c p (htx ▸ haccepts), State.answer, State.withTx, ← htx]

theorem TxUpdate.acceptedSteps (n : Nat) (s : State) : TxUpdate (State.acceptedSteps n) s := by
  induction n generalizing s with
  | zero => exact .refl s
  | succ n ih => exact TxUpdate.comp (f := fun u => u.txStep .accept) (.txStep s .accept) (ih _)

theorem State.sendFrame_of_accepts (s : State) (c : Command) (p : Half) (h : s.tx.accepts c = true) :
    s.sendFrame c p = State.acceptedSteps 7 (s.txLoad c p) := if_pos h

theorem State.sendFrame_of_not_accepts (s : State) (c : Command) (p : Half) (h : ¬ s.tx.accepts c = true) :
    s.sendFrame c p = s.txLoad c p := if_neg h

theorem TxUpdate.sendFrame (s : State) (c : Command) (p : Half) : TxUpdate (fun u => u.sendFrame c p) s := by
  by_cases haccepts : s.tx.accepts c = true
  · obtain ⟨tx, out, rs, hsend⟩ := TxUpdate.comp (.txLoad s c p) (.acceptedSteps 7 _)
    exact ⟨tx, out, rs, fun u htx => (u.sendFrame_of_accepts c p (htx ▸ haccepts)).trans (hsend u htx)⟩
  · obtain ⟨tx, out, rs, hload⟩ := TxUpdate.txLoad s c p
    exact ⟨tx, out, rs, fun u htx => (u.sendFrame_of_not_accepts c p (htx ▸ haccepts)).trans (hload u htx)⟩

/-- Every TX operation updates the TX sub-block, and reads nothing else (R7, R101). -/
theorem exec_txOperation {i : Instr} (hi : isTxOperation i = true) (s : State) :
    ∃ f, TxUpdate f s ∧ ∀ u, exec i u = .next (f u) := by
  cases i with
  | txClear => exact ⟨_, .txCleared s, exec_txClear⟩
  | txLoad c p => exact ⟨_, .txLoad s c p, (exec_txLoad · c p)⟩
  | txStepE e => exact ⟨_, .txStep s (.error e), (exec_txStepOf · (.error e))⟩
  | txStepA => exact ⟨_, .txStep s .accept, (exec_txStepOf · .accept)⟩
  | txStepW => exact ⟨_, .txStep s .wouldBlock, (exec_txStepOf · .wouldBlock)⟩
  | cmdSetMode p => exact ⟨_, .sendFrame s .setMode p, (exec_cmdSetMode · p)⟩
  | cmdReadPassive p => exact ⟨_, .sendFrame s .readPassive p, (exec_cmdReadPassive · p)⟩
  | cmdSetSleep p => exact ⟨_, .sendFrame s .setSleep p, (exec_cmdSetSleep · p)⟩
  | _ => cases hi

/-! ### The obligations -/

/-- Settles O52: the operation is one update of the RX sub-block on both states. -/
theorem rxOperationsIgnoreTheTxState : Obligations.RxOperationsIgnoreTheTxState := by
  intro i s s' hi hrx hdraw
  obtain ⟨f, ⟨rx, rs, hf⟩, hexec⟩ := exec_rxOperation hi s
  refine ⟨s.withRx rx rs, s'.withRx rx rs, rs, ?_, ?_, rfl, rfl, rfl, rfl, rfl⟩
  · rw [hexec s, hf s rfl rfl]
  · rw [hexec s', hf s' hrx hdraw]

/-- Settles O53: the operation is one update of the TX sub-block on both states. -/
theorem txOperationsIgnoreTheRxState : Obligations.TxOperationsIgnoreTheRxState := by
  intro i s s' hi htx
  obtain ⟨f, ⟨tx, out, rs, hf⟩, hexec⟩ := exec_txOperation hi s
  refine ⟨s.withTx tx out rs, s'.withTx tx out rs, rs, out, ?_, ?_, rfl, fun _ => rfl, rfl, rfl, rfl, rfl, rfl⟩
  · rw [hexec s, hf s rfl]
  · rw [hexec s', hf s' htx]

/-- Settles O51: each operation does the same update before and after the other, and updates of the two sub-blocks commute but
for the order of their results. -/
theorem rxAndTxOperationsCommute : Obligations.RxAndTxOperationsCommute := by
  intro i j s hi hj
  obtain ⟨f, ⟨rx, ri, hf⟩, hexecRx⟩ := exec_rxOperation hi s
  obtain ⟨g, ⟨tx, out, rj, hg⟩, hexecTx⟩ := exec_txOperation hj s
  refine ⟨(s.withRx rx ri).withTx tx out rj, (s.withTx tx out rj).withRx rx ri, ri, rj, ?_, ?_, rfl, rfl, rfl⟩
  · rw [hexecRx s, hf s rfl rfl, andThen_next, hexecTx, hg (s.withRx rx ri) rfl]
  · rw [hexecTx s, hg s rfl, andThen_next, hexecRx, hf (s.withTx tx out rj) rfl rfl]

end Sys2Proof.Machine
end

section
/-!
PROOFS. Bytes of the RX wire, one after the other (spec/40_rx_parser.md R65, R66; R57, R133, R139): a run of them is a fold of
`RX.BYTE`; bytes without `0x42` are all discarded at offset 0; a frame row delivers its bytes, and its queries change no register.
-/

namespace Sys2Proof.Machine

/-! ### A run of bytes -/

@[simp] theorem runScript_rxBytes (bs : List Byte) (s : State) : runScript (rxBytes bs) s = .next (bs.foldl State.rxByte s) := by
  simpa [runScript] using runScript_rxBytes_append bs [] s

@[simp] theorem State.foldl_rxByte_tx (bs : List Byte) (s : State) : (bs.foldl State.rxByte s).tx = s.tx := by
  induction bs generalizing s with
  | nil => rfl
  | cons b bs ih => exact ih (s.rxByte b)

@[simp] theorem State.foldl_rxByte_txWire (bs : List Byte) (s : State) : (bs.foldl State.rxByte s).txWire = s.txWire := by
  induction bs generalizing s with
  | nil => rfl
  | cons b bs ih => exact ih (s.rxByte b)

@[simp] theorem State.foldl_rxByte_inputs (bs : List Byte) (s : State) : (bs.foldl State.rxByte s).inputs = s.inputs := by
  induction bs generalizing s with
  | nil => rfl
  | cons b bs ih => exact ih (s.rxByte b)

@[simp] theorem State.foldl_rxByte_draw (bs : List Byte) (s : State) : (bs.foldl State.rxByte s).draw = s.draw := by
  induction bs generalizing s with
  | nil => rfl
  | cons b bs ih => exact ih (s.rxByte b)

/-- A run of bytes returns one byte result for each. -/
theorem State.foldl_rxByte_results (bs : List Byte) (s : State) :
    ∃ ds : List Bool, ds.length = bs.length ∧ (bs.foldl State.rxByte s).results = s.results ++ ds.map .byte := by
  induction bs generalizing s with
  | nil => exact ⟨[], rfl, (List.append_nil _).symm⟩
  | cons b bs ih =>
    obtain ⟨ds, hlength, hresults⟩ := ih (s.rxByte b)
    exact ⟨(s.rx.byte b).2 :: ds, by simp [hlength], by simp [hresults]⟩

/-! ### Bytes without `0x42` -/

/-- At offset 0 every byte but `0x42` is discarded, so a run of such bytes changes no register but `rx.done` (R66, R109). -/
theorem State.foldl_rxByte_of_garbage (bs : List Byte) (s : State) (hcur : s.rx.cursor = 0#6) (hbs : ∀ b ∈ bs, b ≠ 0x42#8) :
    bs.foldl State.rxByte s = { s with rx := { s.rx with done := if bs = [] then s.rx.done else false },
                                       results := s.results ++ List.replicate bs.length (.byte false) } := by
  induction bs generalizing s with
  | nil => simp
  | cons b bs ih =>
    obtain ⟨hb, hbs⟩ := List.forall_mem_cons.mp hbs
    have hrejected : s.rx.passes b = false := by simp [s.rx.passes_offset0 b (congrArg BitVec.toNat hcur), hb]
    rw [List.foldl_cons, s.rxByte_of_rejected b hrejected, ih _ rfl hbs]
    simp [hcur, List.replicate_succ]

/-- Settles O20: the bytes are discarded one by one. -/
theorem garbageNeverCompletesAFrame : Obligations.GarbageNeverCompletesAFrame := by
  intro bs s hcur hbs
  have hrun := s.foldl_rxByte_of_garbage bs hcur hbs
  exact ⟨_, (runScript_rxBytes bs s).trans (congrArg Host.Outcome.next hrun), rfl, rfl, rfl, rfl, rfl, rfl⟩

/-- Settles O34: the stray `0x42` takes the parser to offset 1, where the frame's own `0x42` is rejected; what follows is
garbage. -/
theorem strayMagicLosesTheFrame : Obligations.StrayMagicLosesTheFrame := by
  intro len body s hcur hlen hbody
  have hzero : s.rx.cursor.toNat = 0 := congrArg BitVec.toNat hcur
  obtain ⟨t, hstray, hone, hlength, hdone, hcells, -, -, -, hdraw, hresults⟩ :=
    (offsetZeroTakesOnlyMagicOne s 0x42#8 hzero).1 rfl
  have ht : s.rxByte 0x42#8 = t := Host.Outcome.next.inj hstray
  have hrejected : t.rx.passes 0x42#8 = false := by simp [t.rx.passes_offset1 _ hone]
  have hgarbage : ∀ b ∈ 0x4D#8 :: 0x00#8 :: len :: body, b ≠ 0x42#8 := by
    simpa [hlen] using hbody
  have hrun : (0x42#8 :: responseFrame len body).foldl State.rxByte s =
      (0x4D#8 :: 0x00#8 :: len :: body).foldl State.rxByte
        { t with rx := { t.rx with cursor := 0#6, done := false }, results := t.results ++ [.byte false] } := by
    rw [← t.rxByte_of_rejected _ hrejected, ← ht]
    rfl
  rw [State.foldl_rxByte_of_garbage _ _ rfl hgarbage] at hrun
  refine ⟨_, (runScript_rxBytes _ s).trans (congrArg Host.Outcome.next hrun), ?results, rfl, hlength, rfl, ?cells⟩
  case results => simp [hresults, List.replicate_succ]
  case cells => exact fun i => (State.cell_congr t _ rfl rfl i).trans (hcells i)

/-! ### Delivered bytes and their queries -/

/-- Delivered bytes about which nothing is asked are a run of bytes. -/
theorem State.deliver_id (bs : List Byte) (s : State) : State.deliver id bs s = bs.foldl State.rxByte s := by
  induction bs generalizing s with
  | nil => rfl
  | cons b bs ih => simp [State.deliver, ih]

/-- Settles O50: bytes that are no frame are delivered with no query; a packet of another channel has no such meaning. -/
theorem rxWireTakesEveryByte : Obligations.RxWireTakesEveryByte := by
  intro s p rest why hinputs hdecode
  rw [step_of_inputs_cons hinputs, runInput, runPacket_of_error _ hdecode]
  refine ⟨fun hwire => ⟨_, runRejected_of_rxWire why _ hwire, ?_⟩, runRejected_of_ne_rxWire why _⟩
  rw [runScript_rxBytes, State.deliver_id, State.taken]

/-- The results of `RX.BYTE` among those of other operations. -/
def Result.isByte : Result → Bool
  | .byte _ => true
  | _ => false

/-- Two states that differ at most in results that are not those of `RX.BYTE`. -/
structure State.SameBytes (s u : State) : Prop where
  rx : s.rx = u.rx
  tx : s.tx = u.tx
  txWire : s.txWire = u.txWire
  inputs : s.inputs = u.inputs
  draw : s.draw = u.draw
  results : s.results.filter Result.isByte = u.results.filter Result.isByte

section
variable {s u : State}

theorem State.SameBytes.rxByte (h : s.SameBytes u) (b : Byte) : (s.rxByte b).SameBytes (u.rxByte b) where
  rx := by simp [h.rx]
  tx := h.tx
  txWire := h.txWire
  inputs := h.inputs
  draw := h.draw
  results := by simp [h.rx, h.results]

theorem State.SameBytes.askValidate (h : s.SameBytes u) : s.askValidate.SameBytes u where
  rx := h.rx
  tx := h.tx
  txWire := h.txWire
  inputs := h.inputs
  draw := h.draw
  results := by simp [Result.isByte, h.results]

theorem State.SameBytes.askDecode (h : s.SameBytes u) : s.askDecode.SameBytes u where
  rx := h.rx
  tx := h.tx
  txWire := h.txWire
  inputs := h.inputs
  draw := h.draw
  results := by simp [Result.isByte, h.results]

theorem State.SameBytes.askMeasurement (h : s.SameBytes u) : s.askMeasurement.SameBytes u := by
  unfold State.askMeasurement
  split
  · exact h.askValidate.askDecode
  · exact h.askValidate

/-- Delivered bytes do what the bytes alone do, but for the results of the queries. -/
theorem State.SameBytes.deliver {query : State → State} (hquery : ∀ {s u : State}, s.SameBytes u → (query s).SameBytes u)
    (bs : List Byte) (h : s.SameBytes u) : (State.deliver query bs s).SameBytes (bs.foldl State.rxByte u) := by
  induction bs generalizing s u with
  | nil => exact h
  | cons b bs ih =>
    unfold State.deliver
    split
    · exact ih (hquery (h.rxByte b))
    · exact ih (h.rxByte b)

end

theorem State.SameBytes.refl (s : State) : s.SameBytes s := ⟨rfl, rfl, rfl, rfl, rfl, rfl⟩

/-- Settles O29: each of the two rows delivers its bytes, and its queries add no result of `RX.BYTE`. -/
theorem frameRowsAreParsedByteByByte : Obligations.FrameRowsAreParsedByteByByte := by
  intro i s hi
  have hdelivered : ∃ t, exec i s = .next t ∧ t.SameBytes ((encode i).bytes.foldl State.rxByte s) := by
    obtain ⟨len, body, rfl⟩ | ⟨d, r0, r1, ck, rfl⟩ := hi
    · exact ⟨_, exec_frameResp s len body, .deliver .askValidate _ (.refl s)⟩
    · exact ⟨_, exec_frameMeas s d r0 r1 ck, .deliver .askMeasurement _ (.refl s)⟩
  obtain ⟨t, hexec, hsame⟩ := hdelivered
  exact ⟨t, _, hexec, runScript_rxBytes _ s, hsame.rx, hsame.tx.trans (State.foldl_rxByte_tx _ s),
    hsame.txWire.trans (State.foldl_rxByte_txWire _ s), hsame.inputs.trans (State.foldl_rxByte_inputs _ s),
    hsame.draw.trans (State.foldl_rxByte_draw _ s), hsame.results⟩

end Sys2Proof.Machine
end

section
/-!
PROOFS. What the two queries depend on (spec/41_rx_validate_decode.md R81, R83, R85): the sum of a frame that fits never wraps, so
one wrong byte is always detected; and a decoded record is made of the cells 4 to 27 alone.
-/

namespace Sys2Proof.Machine

/-! ### The sum of a frame that fits -/

/-- The sum of the first `n` cells, as a number. -/
def State.cellSum (s : State) (n : Nat) : Nat := ((List.range n).map fun i => (s.cell i).toNat).sum

@[simp] theorem State.cellSum_succ (s : State) (n : Nat) : s.cellSum (n + 1) = s.cellSum n + (s.cell n).toNat := by
  simp [State.cellSum, List.range_succ]

theorem State.cellSum_le (s : State) (n : Nat) : s.cellSum n ≤ 255 * n := by
  induction n with
  | zero => simp [State.cellSum]
  | succ n ih =>
    have hbyte := (s.cell n).isLt
    rw [State.cellSum_succ]
    omega

theorem State.cellSum_congr {s t : State} {n : Nat} (h : ∀ i < n, t.cell i = s.cell i) : t.cellSum n = s.cellSum n := by
  induction n with
  | zero => rfl
  | succ n ih =>
    rw [State.cellSum_succ, State.cellSum_succ, ih fun i hi => h i (by omega), h n (by omega)]

/-- Two sums over cells that differ in the cell `k` alone differ by what that cell differs. -/
theorem State.cellSum_of_differ_at {s t : State} {n k : Nat} (hk : k < n) (h : ∀ i < n, i ≠ k → t.cell i = s.cell i) :
    t.cellSum n + (s.cell k).toNat = s.cellSum n + (t.cell k).toNat := by
  induction n with
  | zero => omega
  | succ n ih =>
    rw [State.cellSum_succ, State.cellSum_succ]
    rcases Nat.lt_or_ge k n with hlt | hge
    · have hrest := ih hlt fun i hi => h i (by omega)
      have hlast := h n (by omega) (by omega)
      rw [hlast]
      omega
    · obtain rfl : k = n := by omega
      have hrest : t.cellSum k = s.cellSum k := State.cellSum_congr fun i hi => h i (by omega) (by omega)
      omega

theorem State.rxSum_toNat_of_fits (s : State) (h : s.rx.length.toNat ≤ 28) :
    s.rxSum.toNat = s.cellSum (s.rx.length.toNat + 2) := by
  have hsum := s.cellSum_le (s.rx.length.toNat + 2)
  rw [s.rxSum_toNat]
  exact Nat.mod_eq_of_lt (by rw [← State.cellSum]; omega)

/-- A frame that fits validates exactly when its sum, which does not wrap, is its checksum (R80). -/
theorem State.validate_iff_of_fits (s : State) (h : s.rx.length.toNat ≤ 28) : s.validate = true ↔
    s.cellSum (s.rx.length.toNat + 2) =
      256 * (s.cell (s.rx.length.toNat + 2)).toNat + (s.cell (s.rx.length.toNat + 3)).toNat := by
  rw [s.validate_of_fits h, decide_eq_true_iff, ← s.rxSum_toNat, s.rxSum_toNat_of_fits h]

/-- Settles O26: a wrong byte before the checksum changes the sum alone, a wrong checksum byte the checksum alone; 30 bytes sum to
at most 7650, which is below `0x1E00`. -/
theorem singleByteCorruptionIsDetected : Obligations.SingleByteCorruptionIsDetected := by
  refine ⟨fun s t k _ hfits hlength hk hwrong hrest hvalid => ?wrong, fun s hfits => ?bound, fun s hfits hhigh => ?high⟩
  case wrong =>
    rw [Bool.eq_false_iff, Ne, t.validate_iff_of_fits (hlength ▸ hfits), hlength]
    rw [s.validate_iff_of_fits hfits] at hvalid
    intro hvalid'
    rw [Ne, ← BitVec.toNat_inj] at hwrong
    rcases Nat.lt_or_ge k (s.rx.length.toNat + 2) with hbefore | hchecksum
    · have hhi := hrest (s.rx.length.toNat + 2) (by omega) (by omega)
      have hlo := hrest (s.rx.length.toNat + 3) (by omega) (by omega)
      have hsum := State.cellSum_of_differ_at hbefore fun i hi hne => hrest i hne (by omega)
      rw [hhi, hlo] at hvalid'
      omega
    · have hsum : t.cellSum (s.rx.length.toNat + 2) = s.cellSum (s.rx.length.toNat + 2) :=
        State.cellSum_congr fun i hi => hrest i (by omega) (by omega)
      obtain rfl | rfl : k = s.rx.length.toNat + 2 ∨ k = s.rx.length.toNat + 3 := by omega
      · have hlo := hrest (s.rx.length.toNat + 3) (by omega) (by omega)
        rw [hlo] at hvalid'
        omega
      · have hhi := hrest (s.rx.length.toNat + 2) (by omega) (by omega)
        rw [hhi] at hvalid'
        omega
  case bound =>
    have hsum := s.cellSum_le (s.rx.length.toNat + 2)
    rw [s.rxSum_toNat_of_fits hfits]
    omega
  case high =>
    have hsum := s.cellSum_le (s.rx.length.toNat + 2)
    rw [Bool.eq_false_iff, Ne, s.validate_iff_of_fits hfits]
    omega

/-! ### The cells of a decoded record -/

theorem SensorData.ofBytes_congr {f g : Nat → Byte} (h : ∀ i < 24, f i = g i) :
    SensorData.ofBytes f = SensorData.ofBytes g := by
  simp [SensorData.ofBytes, h]

/-- Settles O28: the record is made of the 24 cells from index 4 on. -/
theorem decodeSeesOnlyBytesFourToTwentySeven : Obligations.DecodeSeesOnlyBytesFourToTwentySeven := by
  intro s t hcells
  have hrecord : t.decodeRecord = s.decodeRecord :=
    SensorData.ofBytes_congr fun i hi => hcells (4 + i) (by omega) (by omega)
  exact ⟨s.decodeRecord, exec_rxDecode s, (exec_rxDecode t).trans (by rw [← hrecord]; rfl)⟩

end Sys2Proof.Machine
end

section
/-!
PROOFS. A whole frame on the RX wire (spec/40_rx_parser.md R53, R66 to R71, R74): from cursor 0 a frame that fits is received, its
last byte alone completing it; a frame row then asks its queries once.
-/

namespace Sys2Proof.Machine

/-! ### Cells as a listing -/

theorem State.cell_eq_getD {s : State} {n i : Nat} {bs : List Byte} (h : s.cells n = bs) (hi : i < n) :
    s.cell i = bs.getD i 0#8 := by
  subst h
  simp [State.cells, hi]

theorem State.cellSum_eq_sum_cells (s : State) (n : Nat) : s.cellSum n = ((s.cells n).map BitVec.toNat).sum := by
  simp [State.cellSum, State.cells, Function.comp_def]

/-! ### What a run of bytes leaves -/

/-- A frame's last byte restarts the parser. -/
theorem State.rxByte_cursor_of_done (s : State) (b : Byte) (h : (s.rxByte b).rx.done = true) :
    (s.rxByte b).rx.cursor = 0#6 := by
  have hlast : s.rx.completes b = true := (s.rxByte_done_eq_completes b).symm.trans h
  rw [State.rxByte_rx, s.rx.byte_passed b (s.rx.passes_of_completes b hlast), hlast, if_pos rfl]

theorem State.foldl_rxByte_cursor_of_done (bs : List Byte) {s : State} (hs : s.rx.done = true → s.rx.cursor = 0#6)
    (h : (bs.foldl State.rxByte s).rx.done = true) : (bs.foldl State.rxByte s).rx.cursor = 0#6 := by
  induction bs generalizing s with
  | nil => exact hs h
  | cons b bs ih => exact ih (s.rxByte_cursor_of_done b) h

theorem State.rxByte_cursor_le (s : State) (b : Byte) : (s.rxByte b).rx.cursor.toNat ≤ s.rx.cursor.toNat + 1 := by
  cases hpass : s.rx.passes b with
  | false => simp [s.rxByte_of_rejected b hpass]
  | true =>
    rw [State.rxByte_rx, s.rx.byte_passed b hpass]
    split
    · exact Nat.zero_le _
    · exact Nat.mod_le _ _

/-- A run of bytes changes no cell at or past the place where its last byte would go. -/
theorem State.cell_foldl_rxByte_of_le (bs : List Byte) (s : State) (i : Nat) (h : s.rx.cursor.toNat + bs.length ≤ i) :
    (bs.foldl State.rxByte s).cell i = s.cell i := by
  induction bs generalizing s with
  | nil => rfl
  | cons b bs ih =>
    have hcur := s.rxByte_cursor_le b
    rw [List.length_cons] at h
    rw [List.foldl_cons, ih (s.rxByte b) (by omega), s.cell_rxByte_of_ne b i (by omega)]

/-- If a run of bytes completes a frame with its last byte alone, then delivering it asks the query once, at its end. -/
theorem State.deliver_of_last_completes (query : State → State) (bs : List Byte) (s : State) (n : Nat)
    (h : (bs.foldl State.rxByte s).results = s.results ++ List.replicate n (.byte false) ++ [.byte true]) :
    State.deliver query bs s = query (bs.foldl State.rxByte s) := by
  induction bs generalizing s n with
  | nil => simp at h
  | cons b bs ih =>
    obtain ⟨ds, hlength, hresults⟩ := State.foldl_rxByte_results bs (s.rxByte b)
    have hhead : .byte (s.rx.byte b).2 :: ds.map Result.byte = List.replicate n (.byte false) ++ [.byte true] := by
      rw [List.foldl_cons, hresults] at h
      simpa using h
    unfold State.deliver
    cases n with
    | zero =>
      obtain ⟨hdone, rfl⟩ : (s.rx.byte b).2 = true ∧ ds = [] := by simpa using hhead
      obtain rfl : bs = [] := List.length_eq_zero_iff.mp hlength.symm
      exact if_pos hdone
    | succ n =>
      obtain ⟨hmore, hrest⟩ : (s.rx.byte b).2 = false ∧
          ds.map Result.byte = List.replicate n (.byte false) ++ [.byte true] := by
        simpa [List.replicate_succ] using hhead
      rw [if_neg (by simp [hmore])]
      exact ih (s.rxByte b) n (by rw [hresults, hrest, List.append_assoc])

/-! ### Receiving a frame that fits -/

/-- `t` has received, from `s`, the frame of declared length `len` whose declared bytes are `body`: the buffer holds it, its last
byte alone has completed it, and nothing else has changed. -/
structure State.Received (s t : State) (len : Byte) (body : List Byte) : Prop where
  cursor : t.rx.cursor = 0#6
  length : t.rx.length.toNat = len.toNat
  done : t.rx.done = true
  cells : t.cells (len.toNat + 4) = responseFrame len body
  cells_after : ∀ i, len.toNat + 4 ≤ i → t.cell i = s.cell i
  tx : t.tx = s.tx
  txWire : t.txWire = s.txWire
  inputs : t.inputs = s.inputs
  draw : t.draw = s.draw
  results : t.results = s.results ++ List.replicate (len.toNat + 3) (.byte false) ++ [.byte true]

section
variable {s t : State} {before : List Result} {len ckHi ckLo : Byte} {body : List Byte}

/-- A length byte 0 completes the frame at offset 3 (R69). -/
theorem State.Collected.length_zero (h : s.Collected before [0x42#8, 0x4D#8, 0x00#8]) (hzero : len.toNat = 0) :
    (s.rxByte len).rx.done = true ∧ (s.rxByte len).rx.length.toNat = len.toNat ∧
      (s.rxByte len).cells (len.toNat + 4) = responseFrame len [] ∧
      (s.rxByte len).results = before ++ List.replicate (len.toNat + 3) (.byte false) ++ [.byte true] := by
  have hpass : s.rx.passes len = true := (s.rx.passes_offset3 len h.cursor).trans (decide_eq_true (by omega))
  have hlast : s.rx.completes len = true := (s.rx.completes_offset3 len h.cursor).trans (decide_eq_true hzero)
  refine ⟨(s.rxByte_done_eq_completes len).trans hlast, h.length_rxByte hpass rfl, ?cells, ?results⟩
  case cells =>
    rw [hzero]
    exact h.cells_rxByte hpass (by decide)
  case results =>
    rw [s.rxByte_results_eq_completes, hlast, h.results, hzero]
    rfl

/-- The first three header bytes are collected (R66 to R68). -/
theorem State.collected_magic (hcur : s.rx.cursor = 0#6) :
    ([0x42#8, 0x4D#8, 0x00#8].foldl State.rxByte s).Collected s.results [0x42#8, 0x4D#8, 0x00#8] := by
  have h0 := State.collected_nil hcur
  have h1 := h0.rxByte_of_lt_three (by decide) ((RxState.passes_offset0 _ 0x42#8 h0.cursor).trans rfl)
  have h2 := h1.rxByte_of_lt_three (by decide) ((RxState.passes_offset1 _ 0x4D#8 h1.cursor).trans rfl)
  exact h2.rxByte_of_lt_three (by decide) ((RxState.passes_offset2 _ 0x00#8 h2.cursor).trans rfl)

/-- A frame that fits, of any declared length from 0 on, is received from cursor 0 (R53, R69, R70). -/
theorem State.received_responseFrame (hcur : s.rx.cursor = 0#6) (hbody : body.length = len.toNat) (hfits : len.toNat ≤ 28) :
    ∃ t, (responseFrame len body).foldl State.rxByte s = t ∧ s.Received t len body := by
  have hreceived : ∃ t, (responseFrame len body).foldl State.rxByte s = t ∧ t.rx.done = true ∧
      t.rx.length.toNat = len.toNat ∧ t.cells (len.toNat + 4) = responseFrame len body ∧
      t.results = s.results ++ List.replicate (len.toNat + 3) (.byte false) ++ [.byte true] := by
    rcases List.eq_nil_or_concat body with rfl | ⟨init, b, rfl⟩
    · exact ⟨_, rfl, (State.collected_magic hcur).length_zero hbody.symm⟩
    · rw [List.concat_eq_append] at hbody ⊢
      exact State.foldl_rxByte_responseFrame init hcur (by simpa using hbody) hfits
  obtain ⟨t, hrun, hdone, hlength, hcells, hresults⟩ := hreceived
  have hcursor := State.foldl_rxByte_cursor_of_done (responseFrame len body) (fun _ => hcur) (hrun ▸ hdone)
  have hafter : ∀ i, len.toNat + 4 ≤ i → ((responseFrame len body).foldl State.rxByte s).cell i = s.cell i := fun i hi =>
    State.cell_foldl_rxByte_of_le _ s i (by simp [responseFrame, hcur, hbody]; omega)
  rw [hrun] at hcursor hafter
  refine ⟨t, hrun, hcursor, hlength, hdone, hcells, hafter, ?_, ?_, ?_, ?_, hresults⟩
  · rw [← hrun, State.foldl_rxByte_tx]
  · rw [← hrun, State.foldl_rxByte_txWire]
  · rw [← hrun, State.foldl_rxByte_inputs]
  · rw [← hrun, State.foldl_rxByte_draw]

/-- Delivering a frame that fits asks the query once, on the received frame. -/
theorem State.deliver_responseFrame (query : State → State) (hcur : s.rx.cursor = 0#6) (hbody : body.length = len.toNat)
    (hfits : len.toNat ≤ 28) :
    ∃ t, State.deliver query (responseFrame len body) s = query t ∧ s.Received t len body := by
  obtain ⟨t, rfl, hframe⟩ := State.received_responseFrame hcur hbody hfits
  exact ⟨_, State.deliver_of_last_completes query _ s _ hframe.results, hframe⟩

/-- A received frame's header stands in the buffer. -/
theorem State.Received.header (h : s.Received t len body) :
    t.cell 0 = 0x42#8 ∧ t.cell 1 = 0x4D#8 ∧ t.cell 2 = 0x00#8 ∧ t.cell 3 = len :=
  ⟨State.cell_eq_getD h.cells (by omega), State.cell_eq_getD h.cells (by omega), State.cell_eq_getD h.cells (by omega),
    State.cell_eq_getD h.cells (by omega)⟩

/-- The bytes of a frame sum to its header and its declared bytes; the length's high byte adds nothing. -/
theorem sum_responseFrame (len : Byte) (body : List Byte) :
    ((responseFrame len body).map BitVec.toNat).sum = 0x42 + 0x4D + len.toNat + (body.map BitVec.toNat).sum := by
  simp [responseFrame, magic1, magic2, ← Nat.add_assoc]

/-- A received frame with room for a checksum validates exactly when that is the sum of what stands before it (R80). -/
theorem State.Received.validate (h : s.Received t len (body ++ [ckHi, ckLo])) (hfits : len.toNat ≤ 28) :
    t.validate = decide (0x42 + 0x4D + len.toNat + (body.map BitVec.toNat).sum = 256 * ckHi.toNat + ckLo.toNat) := by
  have hcells : t.cells (len.toNat + 2) ++ [t.cell (len.toNat + 2), t.cell (len.toNat + 3)] =
      responseFrame len body ++ [ckHi, ckLo] := by
    simpa [State.cells_succ, responseFrame] using h.cells
  obtain ⟨hbefore, hchecksum⟩ := List.append_inj' hcells rfl
  obtain ⟨hhi, hlo⟩ : t.cell (len.toNat + 2) = ckHi ∧ t.cell (len.toNat + 3) = ckLo := by simpa using hchecksum
  have hsum : t.cellSum (len.toNat + 2) = 0x42 + 0x4D + len.toNat + (body.map BitVec.toNat).sum := by
    rw [t.cellSum_eq_sum_cells, hbefore, sum_responseFrame]
  have hvalid := t.validate_iff_of_fits (h.length ▸ hfits)
  rw [h.length, hsum, hhi, hlo] at hvalid
  exact Bool.eq_iff_iff.mpr (hvalid.trans decide_eq_true_iff.symm)

/-- A received frame too short for a checksum does not validate (R82). -/
theorem State.Received.validate_of_le_one (h : s.Received t len body) (hle : len.toNat ≤ 1) : t.validate = false := by
  obtain ⟨h0, h1, h2, h3⟩ := h.header
  have hlength := h.length
  have hinv : t.RxInv := State.rxInv_of_header h0 h1 h2 (by rw [h3, hlength]) (by omega) (by simp [h.cursor]) fun _ => h.cursor
  exact t.validate_of_held_length_le_one hinv h.done (by omega)

end

/-! ### The obligations -/

/-- Settles O30: the noise is discarded at offset 0, and the frame is received from there with a checksum that is its sum. -/
theorem wellFormedFrameIsReceived : Obligations.WellFormedFrameIsReceived := by
  intro noise body len ckHi ckLo s hcur hnoise hfits hbody hsum
  have hquiet := s.foldl_rxByte_of_garbage noise hcur hnoise
  obtain ⟨t, hrun, hframe⟩ := State.received_responseFrame (s := noise.foldl State.rxByte s) (body := body ++ [ckHi, ckLo])
    (by rw [hquiet]; exact hcur) (by simpa using hbody) hfits
  rw [← List.foldl_append] at hrun
  have hvalid : t.validate = true := (hframe.validate hfits).trans (decide_eq_true hsum.symm)
  refine ⟨t, (runScript_rxBytes _ s).trans (congrArg _ hrun), ?results, hframe.cursor, hframe.length, hframe.cells.trans ?cells,
    hvalid, t.rxOk_iff.mpr ⟨hframe.done, hvalid⟩, hframe.tx.trans ?tx, hframe.txWire.trans ?txWire⟩
  case results =>
    rw [hframe.results, hquiet]
    simp only [List.append_assoc, List.replicate_add]
  case cells => simp [responseFrame, magic1, magic2]
  case tx => simp
  case txWire => simp

/-- Settles O31: the row delivers its frame and asks `RX.VALIDATE` once, on the received frame. -/
theorem responseFrameRowReportsItsChecksum : Obligations.ResponseFrameRowReportsItsChecksum := by
  refine ⟨fun len body ckHi ckLo s hcur hfits hbody => ?checked, fun len body s hcur hle hbody => ?short⟩
  case checked =>
    obtain ⟨t, hrun, hframe⟩ := State.deliver_responseFrame (body := body ++ [ckHi, ckLo]) State.askValidate hcur
      (by simpa using hbody) hfits
    refine ⟨t.askValidate, (exec_frameResp s len _).trans (congrArg _ hrun), ?results, hframe.cursor, hframe.length,
      hframe.done, hframe.cells.trans ?cells, hframe.cells_after, hframe.tx, hframe.txWire, hframe.inputs, hframe.draw⟩
    case results => simp [hframe.results, hframe.validate hfits]
    case cells => simp [responseFrame, magic1, magic2]
  case short =>
    obtain ⟨t, hrun, hframe⟩ := State.deliver_responseFrame State.askValidate hcur hbody (by omega)
    refine ⟨t.askValidate, (exec_frameResp s len _).trans (congrArg _ hrun), ?results, hframe.cursor, hframe.length,
      hframe.done, hframe.cells, hframe.cells_after, hframe.tx, hframe.txWire, hframe.inputs, hframe.draw⟩
    case results => simp [hframe.results, hframe.validate_of_le_one hle]

/-- The record of a received measurement frame is the one it was made of (R86). -/
theorem State.Received.decodeRecord {s t : State} {d : SensorData} {r0 r1 : Byte} {ck : Half}
    (h : s.Received t 28#8 (measurementBody d r0 r1 ck)) : t.decodeRecord = d := by
  have hcell : ∀ i < 24, t.cell (4 + i) = (measurementBody d r0 r1 ck).getD i 0#8 := fun i hi => by
    rw [State.cell_eq_getD h.cells (i := 4 + i) (by simp; omega), responseFrame, Nat.add_comm 4 i]
    rfl
  exact (SensorData.ofBytes_congr hcell).trans (d.ofBytes_bytes_append _)

/-- Settles O32: the frame is received, its checksum is its sum by hypothesis, and its cells give back the record. -/
theorem measurementRoundTrip : Obligations.MeasurementRoundTrip := by
  intro d r0 r1 ck s hcur hsum
  obtain ⟨t, hrun, hframe⟩ := State.deliver_responseFrame (len := 28#8) (body := measurementBody d r0 r1 ck)
    State.askMeasurement hcur rfl (by decide)
  have hvalid : t.validate = true := by
    have hchecked : s.Received t 28#8 ((d.bytes ++ [r0, r1]) ++ [hi ck, lo ck]) := by simpa [measurementBody] using hframe
    have hbefore : (measurementFrame d r0 r1 ck).take 30 = responseFrame 28#8 (d.bytes ++ [r0, r1]) := rfl
    rw [hchecked.validate (by decide), decide_eq_true_iff, hi_lo_toNat, hsum, hbefore, sum_responseFrame]
  have hask : t.askMeasurement = t.askValidate.askDecode := if_pos hvalid
  refine ⟨t.askValidate.askDecode, (exec_frameMeas s d r0 r1 ck).trans (congrArg _ (hrun.trans hask)), ?results, hframe.cursor,
    hframe.length, hframe.done, hframe.cells, hframe.tx, hframe.txWire, hframe.inputs, hframe.draw⟩
  case results =>
    have hrecord : t.askValidate.decodeRecord = d := hframe.decodeRecord
    simp [hframe.results, hvalid, hrecord]

end Sys2Proof.Machine
end

section
/-!
PROOFS. A frame of declared length 29 to 32 (spec/70_reset_and_hazards.md R143, R34, R81): its first 32 bytes are collected like
those of any frame, the others are counted but stored nowhere.
-/

namespace Sys2Proof.Machine

section
variable {s : State} {before : List Result} {pre : List Byte} {len : Byte}

/-- After the header, bytes before the frame's last are collected while the buffer has room for them (R70). -/
theorem State.Collected.body_of_room (bs : List Byte) (h : s.Collected before pre) (hlen : pre[3]? = some len)
    (hbefore : pre.length + bs.length ≤ len.toNat + 3) (hroom : pre.length + bs.length ≤ 32) :
    (bs.foldl State.rxByte s).Collected before (pre ++ bs) := by
  induction bs generalizing s pre with
  | nil => simpa using h
  | cons b bs ih =>
    obtain ⟨hheader, -⟩ := List.getElem?_eq_some_iff.mp hlen
    have hcur := h.cursor
    have hdeclared := h.length len hlen
    rw [List.length_cons] at hbefore hroom
    have hmore : s.rx.completes b = false := by
      rw [s.rx.completes_of_four_le b (by omega), decide_eq_false_iff_not]
      omega
    have hnext := h.rxByte (s.rx.passes_of_four_le b (by omega)) hmore (by omega)
    simpa using ih hnext (by rwa [List.getElem?_append_left hheader]) (by simp; omega) (by simp; omega)

end

/-- At an offset past the buffer a byte changes neither a cell nor the declared length (R34). -/
theorem State.rxByte_past_buffer (s : State) (b : Byte) (h : 32 ≤ s.rx.cursor.toNat) :
    (s.rxByte b).rx.buf = s.rx.buf ∧ (s.rxByte b).rx.length = s.rx.length := by
  refine ⟨?_, s.rxByte_length_of_ne_three b (by omega)⟩
  rw [State.rxByte_rx, s.rx.byte_passed b (s.rx.passes_of_four_le b (by omega))]
  exact Memory.write_of_bufSize_le _ _ b h

/-- From offset 32 on, the rest of a frame is counted up to its last byte, and no cell changes (R34, R70). -/
theorem State.foldl_rxByte_past_buffer (n : Nat) (bs : List Byte) (s : State) (hbs : bs.length = n + 1)
    (hlow : 32 ≤ s.rx.cursor.toNat) (hlength : s.rx.length.toNat ≤ 32)
    (hend : s.rx.cursor.toNat + n = s.rx.length.toNat + 3) :
    ∃ t, bs.foldl State.rxByte s = t ∧ t.rx.buf = s.rx.buf ∧ t.rx.length = s.rx.length ∧ t.rx.cursor = 0#6 ∧
      t.rx.done = true ∧ t.results = s.results ++ List.replicate n (.byte false) ++ [.byte true] := by
  induction n generalizing s bs with
  | zero =>
    obtain ⟨b, rfl⟩ := List.length_eq_one_iff.mp hbs
    obtain ⟨hbuf, hlen⟩ := s.rxByte_past_buffer b hlow
    have hlast : s.rx.completes b = true := by
      rw [s.rx.completes_of_four_le b (by omega), decide_eq_true_iff]
      omega
    have hdone := (s.rxByte_done_eq_completes b).trans hlast
    refine ⟨s.rxByte b, rfl, hbuf, hlen, s.rxByte_cursor_of_done b hdone, hdone, ?_⟩
    rw [s.rxByte_results_eq_completes, hlast]
    simp
  | succ n ih =>
    obtain ⟨b, rest, rfl⟩ := List.exists_cons_of_length_eq_add_one hbs
    obtain ⟨hbuf, hlen⟩ := s.rxByte_past_buffer b hlow
    have hmore : s.rx.completes b = false := by
      rw [s.rx.completes_of_four_le b (by omega), decide_eq_false_iff_not]
      omega
    have hcur : (s.rxByte b).rx.cursor.toNat = s.rx.cursor.toNat + 1 := by
      rw [s.rxByte_cursor_of_passes b (s.rx.passes_of_four_le b (by omega)) (by omega), hmore]
      rfl
    obtain ⟨t, hrun, hbuf', hlen', hcursor, hdone, hresults⟩ := ih rest (s.rxByte b) (by simpa using hbs) (by omega)
      (by rw [hlen]; exact hlength) (by rw [hcur, hlen]; omega)
    refine ⟨t, hrun, hbuf'.trans hbuf, hlen'.trans hlen, hcursor, hdone, ?_⟩
    rw [hresults, s.rxByte_results_eq_completes, hmore]
    simp [List.replicate_succ]

/-- A frame of declared length 29 to 32 is completed by its last byte alone, and its first 32 bytes fill the buffer (R143). -/
theorem State.foldl_rxByte_long_frame {s : State} {len : Byte} {body : List Byte} (hcur : s.rx.cursor = 0#6)
    (hlow : 29 ≤ len.toNat) (hhigh : len.toNat ≤ 32) (hbody : body.length = len.toNat) :
    ∃ t, (responseFrame len body).foldl State.rxByte s = t ∧ t.rx.cursor = 0#6 ∧ t.rx.length.toNat = len.toNat ∧
      t.rx.done = true ∧ t.cells 32 = [0x42#8, 0x4D#8, 0x00#8, len] ++ body.take 28 ∧
      t.results = s.results ++ List.replicate (len.toNat + 3) (.byte false) ++ [.byte true] := by
  have hheader := (State.collected_nil hcur).header (len := len) (by omega) hhigh
  have hfull := hheader.body_of_room (body.take 28) rfl (by simp; omega) (by simp; omega)
  rw [← List.foldl_append] at hfull
  obtain ⟨u, hu⟩ : ∃ u, ([0x42#8, 0x4D#8, 0x00#8, len] ++ body.take 28).foldl State.rxByte s = u := ⟨_, rfl⟩
  rw [hu] at hfull
  have hstored : ([0x42#8, 0x4D#8, 0x00#8, len] ++ body.take 28).length = 32 := by simp; omega
  have hcursor : u.rx.cursor.toNat = 32 := hfull.cursor.trans hstored
  have hlength : u.rx.length.toNat = len.toNat := hfull.length len rfl
  have hcells := hfull.cells
  have hresults := hfull.results
  rw [hstored] at hcells hresults
  obtain ⟨t, hrun, hbuf, hlength', hcursor', hdone, hresults'⟩ :=
    State.foldl_rxByte_past_buffer (len.toNat - 29) (body.drop 28) u (by simp; omega) (by omega) (by omega) (by omega)
  have hdraw : t.draw = u.draw := by rw [← hrun, State.foldl_rxByte_draw]
  refine ⟨t, ?run, hcursor', (congrArg _ hlength').trans hlength, hdone, ?cells, ?results⟩
  case run =>
    rw [← hrun, ← hu, ← List.foldl_append, List.append_assoc, List.take_append_drop]
    rfl
  case cells => exact (List.map_congr_left fun i _ => u.cell_congr t hbuf hdraw i).trans hcells
  case results =>
    rw [hresults', hresults, show len.toNat + 3 = 32 + (len.toNat - 29) by omega, List.replicate_add,
      List.append_assoc s.results]

/-- Settles O33: the row delivers its frame and asks `RX.VALIDATE` once; a frame this long never validates. -/
theorem frameThatDoesNotFitNeverValidates : Obligations.FrameThatDoesNotFitNeverValidates := by
  intro len body s hcur hlow hhigh hbody
  obtain ⟨t, hrun, hcursor, hlength, hdone, hcells, hresults⟩ := State.foldl_rxByte_long_frame hcur hlow hhigh hbody
  have hrow : State.deliver State.askValidate (responseFrame len body) s = t.askValidate := by
    rw [State.deliver_of_last_completes _ _ s (len.toNat + 3) (hrun ▸ hresults), hrun]
  have hinvalid : t.validate = false := t.validate_of_not_fits (by omega)
  refine ⟨t.askValidate, (exec_frameResp s len body).trans (congrArg _ hrow), ?results, hcursor, hlength, hdone, hcells,
    ?tx, ?txWire⟩
  case results => simp [hresults, hinvalid]
  case tx => rw [State.askValidate_tx, ← hrun, State.foldl_rxByte_tx]
  case txWire => rw [State.askValidate_txWire, ← hrun, State.foldl_rxByte_txWire]

end Sys2Proof.Machine
end

section
/-!
PROOFS. Sequences of attempts (spec/42_tx_serializer.md R100): whatever the transport answers, the bytes that go out are the next
bytes of the frame in flight, each once, and the frame is complete when all seven have gone out.
-/

namespace Sys2Proof.Machine

/-! ### One attempt with a command in flight -/

/-- An accepted attempt puts the frame's next byte on the wire and moves the cursor on (R94). -/
theorem State.txStep_accept_sends {s : State} (hcmd : s.tx.cmd ≠ .none) (hcur : s.tx.cursor.toNat < 7) :
    ∃ b, (s.txStep .accept).tx = { s.tx with cursor := (s.txStep .accept).tx.cursor } ∧
      (s.txStep .accept).tx.cursor.toNat = s.tx.cursor.toNat + 1 ∧
      s.tx.frame.drop s.tx.cursor.toNat = b :: (s.txStep .accept).tx.frame.drop (s.tx.cursor.toNat + 1) ∧
      (s.txStep .accept).txWire = s.txWire ++ [b] ∧
      (s.txStep .accept).results = s.results ++ [.step (if s.tx.cursor.toNat = 6 then .complete else .pending)] := by
  obtain ⟨b, t, hb, hexec, hwire, hcursor, htx, hresults, -⟩ := acceptedStepSendsTheNextByte s hcmd hcur
  obtain rfl : s.txStep .accept = t := Host.Outcome.next.inj hexec
  have hframe : (s.txStep .accept).tx.frame = s.tx.frame := by rw [htx]; rfl
  obtain ⟨hlt, hget⟩ := List.getElem?_eq_some_iff.mp hb
  exact ⟨b, htx, hcursor, by rw [hframe, ← hget, List.drop_eq_getElem_cons hlt], hwire, hresults⟩

/-- An attempt that is not accepted, or that finds no byte left, changes nothing, and is complete in the second case alone
(R95, R97, R98). -/
theorem TxState.attempt_unchanged {t : TxState} {a : TxAnswer} (hcmd : t.cmd ≠ .none) (h : t.cursor.toNat = 7 ∨ a ≠ .accept) :
    ∃ r, t.attempt a = ⟨t, r, []⟩ ∧ (r = .complete ↔ t.cursor.toNat = 7) := by
  by_cases hsent : t.cursor.toNat = 7
  · exact ⟨.complete, t.attempt_sent a hcmd hsent, by simp [hsent]⟩
  · obtain ⟨b, hb⟩ := t.byteAt_isSome t.cursor.toNat (by omega)
    have hattempt := t.attempt_offered a b hcmd hb
    cases a with
    | accept => exact absurd rfl (h.resolve_left hsent)
    | wouldBlock => exact ⟨.pending, hattempt, by simp [hsent]⟩
    | error e => exact ⟨.failed e, hattempt, by simp [hsent]⟩

/-! ### Any sequence of answers -/

/-- `t` is reached from `s` by attempts of which `n` were accepted, and `rs` are their results. -/
structure State.Sent (s t : State) (n : Nat) (rs : List Result) : Prop where
  tx : t.tx = { s.tx with cursor := t.tx.cursor }
  cursor : t.tx.cursor.toNat = min 7 (s.tx.cursor.toNat + n)
  txWire : t.txWire = s.txWire ++ (s.tx.frame.drop s.tx.cursor.toNat).take n
  results : t.results = s.results ++ rs
  rx : t.rx = s.rx

section
variable {s t : State} {n : Nat} {rs : List Result} {r : StepResult}

theorem State.sent_nil (s : State) : s.Sent s 0 [] where
  tx := rfl
  cursor := by omega
  txWire := by simp
  results := by simp
  rx := rfl

/-- An attempt that changes nothing, before others. -/
theorem State.Sent.of_unchanged {a : TxAnswer} (hattempt : s.tx.attempt a = ⟨s.tx, r, []⟩) (h : (s.txStep a).Sent t n rs) :
    s.Sent t n (.step r :: rs) where
  tx := by simpa [hattempt] using h.tx
  cursor := by simpa [hattempt] using h.cursor
  txWire := by simpa [hattempt] using h.txWire
  results := by simpa [hattempt] using h.results
  rx := h.rx

/-- At cursor 7 an answer sends nothing, even if it is `Accept`. -/
theorem State.Sent.of_sent (hcur : s.tx.cursor.toNat = 7) (h : s.Sent t n rs) (m : Nat) : s.Sent t m rs where
  tx := h.tx
  cursor := by
    have hcursor := h.cursor
    omega
  txWire := by
    have hnone : s.tx.frame.drop s.tx.cursor.toNat = [] := by rw [hcur]; rfl
    simpa [hnone] using h.txWire
  results := h.results
  rx := h.rx

/-- An accepted attempt, before others. -/
theorem State.Sent.of_accepted (hcmd : s.tx.cmd ≠ .none) (hcur : s.tx.cursor.toNat < 7) (h : (s.txStep .accept).Sent t n rs) :
    s.Sent t (n + 1) (.step (if s.tx.cursor.toNat = 6 then .complete else .pending) :: rs) := by
  obtain ⟨b, htx, hcursor, hdrop, hwire, hresults⟩ := State.txStep_accept_sends hcmd hcur
  refine ⟨h.tx.trans (by rw [htx]), ?cursor, ?txWire, ?results, h.rx⟩
  case cursor =>
    rw [h.cursor, hcursor]
    omega
  case txWire =>
    rw [h.txWire, hwire, hcursor, hdrop]
    simp
  case results =>
    rw [h.results, hresults]
    simp

/-- If the accepted answers suffice for the rest of a frame that is not fully sent, there is an answer. -/
theorem answers_ne_nil {answers : List TxAnswer} {k : Nat} (hk : k < 7) (h : 7 ≤ k + answers.count .accept) : answers ≠ [] :=
  List.ne_nil_of_mem (List.count_pos_iff.mp (show 0 < answers.count .accept by omega))

/-- The wire property (R100), from any state with a command in flight; and the last byte's `Complete` is returned as soon as it is
out, and at every attempt after it. -/
theorem State.foldl_txStep_sent (answers : List TxAnswer) (s : State) (hcmd : s.tx.cmd ≠ .none) :
    ∃ t rs, answers.foldl State.txStep s = t ∧ s.Sent t (answers.count .accept) rs ∧
      (.step .complete ∈ rs ↔ answers ≠ [] ∧ 7 ≤ s.tx.cursor.toNat + answers.count .accept) := by
  induction answers generalizing s with
  | nil => exact ⟨s, [], rfl, s.sent_nil, by simp⟩
  | cons a answers ih =>
    have hnext : (s.txStep a).tx.cmd ≠ .none := by
      rw [State.txStep_tx, s.tx.attempt_registers a]
      exact hcmd
    obtain ⟨t, rs, hrun, hsent, hcomplete⟩ := ih (s.txStep a) hnext
    have hcursor_lt := s.tx.cursor.isLt
    by_cases hcur : s.tx.cursor.toNat = 7
    · obtain ⟨r, hattempt, hr⟩ := TxState.attempt_unchanged (a := a) hcmd (.inl hcur)
      refine ⟨t, _, hrun, (hsent.of_unchanged hattempt).of_sent hcur _, ?_⟩
      simp [hr.mpr hcur, hcur]
    · by_cases ha : a = .accept
      · subst ha
        obtain ⟨b, -, hcursor, -⟩ := State.txStep_accept_sends hcmd (by omega)
        rw [hcursor] at hcomplete
        rw [List.count_cons_self]
        refine ⟨t, _, hrun, hsent.of_accepted hcmd (by omega), ?_⟩
        by_cases hsix : s.tx.cursor.toNat = 6
        · simp [hsix]
          omega
        · rw [and_iff_right_of_imp (answers_ne_nil (by omega))] at hcomplete
          simp [hsix, hcomplete]
          omega
      · obtain ⟨r, hattempt, hr⟩ := TxState.attempt_unchanged hcmd (.inr ha)
        rw [State.txStep_tx, hattempt] at hcomplete
        rw [List.count_cons_of_ne ha]
        refine ⟨t, _, hrun, hsent.of_unchanged hattempt, ?_⟩
        have hpending : ¬ r = .complete := fun h => hcur (hr.mp h)
        rw [and_iff_right_of_imp (answers_ne_nil (by simp only; omega))] at hcomplete
        simp [Ne.symm hpending, hcomplete]

end

theorem runScript_txSteps (answers : List TxAnswer) (s : State) :
    runScript (txSteps answers) s = .next (answers.foldl State.txStep s) := by
  induction answers generalizing s with
  | nil => rfl
  | cons a answers ih =>
    rw [txSteps, List.map_cons, runScript, exec_txStepOf]
    exact ih (s.txStep a)

/-- A load that is accepted offers the first byte of the command's frame (R90, R92). -/
theorem State.txLoad_of_free {s : State} {c : Command} (p : Half) (hfree : s.tx.cmd = .none) (hc : c ≠ .none) :
    s.txLoad c p = { s with tx := TxState.loaded c p }.answer (.load .accepted) :=
  s.txLoad_of_accepts c p ((s.tx.accepts_iff c).mpr ⟨hfree, hc⟩)

/-- Settles O43: the answers after the load send the next bytes of the loaded frame, of which none has gone out. -/
theorem wireCarriesTheFrameOnce : Obligations.WireCarriesTheFrameOnce := by
  intro c p answers s hfree hc
  obtain ⟨hsum, -⟩ := commandChecksumNeverWraps c p hc
  have hload := State.txLoad_of_free p hfree hc
  obtain ⟨t, rs, hrun, hsent, hcomplete⟩ := State.foldl_txStep_sent answers (s.txLoad c p) (by rw [hload]; exact hc)
  rw [hload] at hsent hcomplete
  have hcursor : t.tx.cursor.toNat = min 7 (answers.count .accept) := by simpa [TxState.loaded] using hsent.cursor
  have hcmd : t.tx.cmd = c := by rw [hsent.tx]; rfl
  have hresults : t.results.drop s.results.length = .load .accepted :: rs := by simp [hsent.results]
  refine ⟨t, hi (commandChecksum c p), lo (commandChecksum c p), ?run, (hi_lo_toNat _).trans hsum, hsent.txWire, hcursor, hcmd,
    ?done, ?complete, hsent.rx⟩
  case run => rw [runScript, exec_txLoad, andThen_next, runScript_txSteps, hrun]
  case done =>
    have hseven : min 7 (answers.count .accept) = 7 ↔ 7 ≤ answers.count .accept := by omega
    simp [State.txDone, hcmd, hc, hcursor, hseven]
  case complete =>
    have hsome : 7 ≤ 0 + answers.count .accept → answers ≠ [] := answers_ne_nil (by decide)
    rw [hresults]
    simpa [hcomplete, TxState.loaded] using hsome

end Sys2Proof.Machine
end

section
/-!
PROOFS. A command frame row (log 7): a load and seven accepted attempts, or a refused load alone (R90, R100, R136).
-/

namespace Sys2Proof.Machine

/-- A command row sends its command's frame. -/
theorem exec_commandRow {i : Instr} {c : Command} {p : Half} (h : i.IsCommandRow c p) (s : State) :
    exec i s = .next (s.sendFrame c p) := by
  obtain ⟨rfl, rfl⟩ | ⟨rfl, rfl⟩ | ⟨rfl, rfl⟩ := h <;> rfl

/-- Accepted attempts up to the seventh byte send the rest of the frame; each but the last is `Pending` (R94). -/
theorem State.acceptedSteps_to_last (n : Nat) (s : State) (hcmd : s.tx.cmd ≠ .none) (hcur : s.tx.cursor.toNat + n = 6) :
    ∃ t, State.acceptedSteps (n + 1) s = t ∧ t.tx = { s.tx with cursor := t.tx.cursor } ∧ t.tx.cursor.toNat = 7 ∧
      t.txWire = s.txWire ++ s.tx.frame.drop s.tx.cursor.toNat ∧
      t.results = s.results ++ List.replicate n (.step .pending) ++ [.step .complete] ∧
      t.rx = s.rx ∧ t.inputs = s.inputs ∧ t.draw = s.draw := by
  induction n generalizing s with
  | zero =>
    obtain ⟨b, htx, hcursor, hdrop, hwire, hresults⟩ := State.txStep_accept_sends hcmd (by omega)
    have hsix : s.tx.cursor.toNat = 6 := hcur
    rw [hsix] at hcursor hdrop hresults
    refine ⟨s.txStep .accept, rfl, htx, hcursor, ?_, ?_, rfl, rfl, rfl⟩
    · rw [hwire, hsix, hdrop]
      rfl
    · simpa using hresults
  | succ n ih =>
    obtain ⟨b, htx, hcursor, hdrop, hwire, hresults⟩ := State.txStep_accept_sends hcmd (by omega)
    rw [if_neg (by omega)] at hresults
    obtain ⟨t, hrun, htx', hcursor', hwire', hresults', hrest⟩ := ih (s.txStep .accept)
      (by rw [htx]; exact hcmd) (by rw [hcursor]; omega)
    refine ⟨t, hrun, htx'.trans (by rw [htx]), hcursor', ?_, ?_, hrest⟩
    · rw [hwire', hwire, hcursor, hdrop]
      simp
    · rw [hresults', hresults]
      simp [List.replicate_succ]

/-- Settles O44: the slot is free exactly when the load is accepted, and then the seven attempts send the loaded frame. -/
theorem commandRowsSendTheirFrame : Obligations.CommandRowsSendTheirFrame := by
  intro s p i c hrow
  have hcommand : i.IsCommandRow c p := hrow
  have hc := hcommand.ne_none
  rw [exec_commandRow hcommand, hcommand.encode_eq]
  refine ⟨fun hfree => ?free, fun hbusy => ?busy⟩
  case free =>
    have hload := State.txLoad_of_free p hfree hc
    obtain ⟨t, hrun, htx, hcursor, hwire, hresults, hrx, hinputs, hdraw⟩ :=
      State.acceptedSteps_to_last 6 (s.txLoad c p) (by rw [hload]; exact hc) (by rw [hload]; rfl)
    rw [hload] at htx hwire hresults hrx hinputs hdraw
    have hcmd : t.tx.cmd = c := by rw [htx]; rfl
    have hsend : s.sendFrame c p = t :=
      (s.sendFrame_of_accepts c p ((s.tx.accepts_iff c).mpr ⟨hfree, hc⟩)).trans hrun
    have hdone : t.txDone = true := t.txDone_iff.mpr ⟨hcmd ▸ hc, hcursor⟩
    exact ⟨t, congrArg _ hsend, hwire, hcmd, hcursor, hdone, hresults, hrx, hinputs, hdraw⟩
  case busy =>
    have hrefused : ¬ s.tx.accepts c = true := fun h => hbusy ((s.tx.accepts_iff c).mp h).1
    rw [s.sendFrame_of_not_accepts c p hrefused, s.txLoad_of_not_accepts c p hrefused]
    rfl

end Sys2Proof.Machine
end

section
/-!
PROOFS. One clock edge (spec/10_state.md section 8, R29, R112): what the two control words select, and the `Failed` result behind
`tx_fail`.
-/

namespace Sys2Proof.Machine

/-- What a cycle without `rst` does to the RX sub-block: a clear before a byte. -/
def Signals.rxEdge (g : Signals) (s : State) : Answer :=
  if g.rxClear then exec .rxClear s
  else if g.rxValid then exec (.rxByte g.rxData) s
  else .next s

/-- What a cycle without `rst` does to the TX sub-block: a clear before a load before the implicit step. -/
def Signals.txEdge (g : Signals) (s : State) : Answer :=
  if g.txClear then exec .txClear s
  else if g.txLoad then exec (.txLoad (Command.ofSelector g.txCmdIn) g.txPayloadIn) s
  else if s.tx.cmd ≠ .none ∧ s.tx.cursor.toNat < 7 then
    (if g.txErr then exec (.txStepE g.txErrCode) s else if g.txReady then exec .txStepA s else exec .txStepW s)
  else .next s

theorem Signals.rxOperation_eq {g : Signals} (hrst : g.rst = false) : Signals.rxOperation g =
    if g.rxClear then .rxClear else if g.rxValid then .rxByte g.rxData else .rxNop := by
  rw [Signals.rxOperation, Sys2Proof.Signals.decodeCtrlRx_ctrlRx, hrst]
  rfl

theorem Signals.txOperation_eq {g : Signals} (hrst : g.rst = false) : Signals.txOperation g =
    if g.txClear then .txClear else if g.txLoad then .txLoad (Command.ofSelector g.txCmdIn) g.txPayloadIn
    else if g.txErr then .txStepE g.txErrCode else if g.txReady then .txStepA else .txStepW := by
  rw [Signals.txOperation, Sys2Proof.Signals.decodeCtrlTx_ctrlTx, hrst]
  rfl

theorem exec_rxOperation_eq_rxEdge {g : Signals} (hrst : g.rst = false) (s : State) :
    exec (Signals.rxOperation g) s = Signals.rxEdge g s := by
  rw [Signals.rxOperation_eq hrst, Signals.rxEdge]
  split_ifs <;> rfl

/-- The TX sub-block's part of an edge: the implicit step needs a byte to offer. -/
theorem txActs_eq_txEdge {g : Signals} (hrst : g.rst = false) (s : State) :
    (if txActs g s then exec (Signals.txOperation g) s else .next s) = Signals.txEdge g s := by
  rw [Signals.txOperation_eq hrst, Signals.txEdge, txActs]
  cases g.txClear with
  | true => rfl
  | false =>
    cases g.txLoad with
    | true => rfl
    | false =>
      simp only [Bool.or_self, Bool.false_or, Bool.false_eq_true, if_false, s.txValid_iff]
      split_ifs <;> rfl

/-- The RX part of an edge always answers a next state, and leaves the TX sub-block and the wire alone. -/
theorem Signals.rxEdge_eq_next (g : Signals) (s : State) :
    ∃ u, Signals.rxEdge g s = .next u ∧ u.tx = s.tx ∧ u.txWire = s.txWire := by
  unfold Signals.rxEdge
  split_ifs
  · exact ⟨s.rxCleared, rfl, rfl, rfl⟩
  · exact ⟨s.rxByte g.rxData, rfl, rfl, rfl⟩
  · exact ⟨s, rfl, rfl, rfl⟩

/-- An edge without `rst` is its RX part, then its TX part. -/
theorem clockEdge_of_not_rst {g : Signals} (hrst : g.rst = false) (s : State) :
    clockEdge g s = andThen (Signals.rxEdge g s) (Signals.txEdge g) := by
  rw [clockEdge, if_neg (by simp [hrst]), exec_rxOperation_eq_rxEdge hrst]
  exact congrArg (andThen _) (funext fun u => txActs_eq_txEdge hrst u)

/-- Settles O54: with `rst` the edge is a `RESET`, else it is its two parts, the second on the TX state before the edge. -/
theorem clockEdgeFollowsThePriorities : Obligations.ClockEdgeFollowsThePriorities := by
  intro s g rest hinputs
  rw [step_of_inputs_cons hinputs]
  refine ⟨fun hrst => clockEdge_of_rst _ hrst, fun hrst => ?_⟩
  obtain ⟨u, hrx, htx, -⟩ := Signals.rxEdge_eq_next g (s.taken rest)
  refine ⟨u, hrx, ?_⟩
  rw [runInput, clockEdge_of_not_rst hrst, hrx, andThen_next, Signals.txEdge, htx, State.taken_tx]

/-- Settles O56: `tx_fail` needs a byte on offer, so the cycle's TX operation is `TX.STEP(Error(e))` and its attempt fails. -/
theorem txFailIsTheFailedResult : Obligations.TxFailIsTheFailedResult := by
  intro s g hrst hclear hload hfail
  obtain ⟨hvalid, herr⟩ : s.txValid = true ∧ g.txErr = true := by simpa [State.txFail] using hfail
  obtain ⟨u, hrx, htx, hwire⟩ := Signals.rxEdge_eq_next g s
  obtain ⟨hcmd, hcur⟩ : u.tx.cmd ≠ .none ∧ u.tx.cursor.toNat < 7 := htx ▸ s.txValid_iff.mp hvalid
  refine ⟨{ u with results := u.results ++ [.step (.failed g.txErrCode)] }, ?edge, by simp [txFailCode], htx, hwire⟩
  case edge =>
    rw [clockEdge_of_not_rst hrst, hrx, andThen_next, Signals.txEdge, hclear, hload, herr, if_neg Bool.false_ne_true,
      if_neg Bool.false_ne_true, if_pos ⟨hcmd, hcur⟩, if_pos rfl]
    exact failedStepPassesTheErrorThrough u g.txErrCode hcmd hcur

end Sys2Proof.Machine
end

section
/-!
PROOFS. The driver's calls (spec/60_exceptions.md section 6, R119, R121; log 17): what a call that completes has put on the wire,
and what the active read returns.
-/

namespace Sys2Proof.Machine

/-! ### The sequences of a call -/

/-- Stepping until the result is not `Pending` is a run of attempts, and the result it ends with is that of the last one. -/
theorem stepUntil_eq_foldl (answers : List TxAnswer) {s t : State} {r : StepResult} (h : stepUntil answers s = (t, r))
    (hr : r ≠ .pending) :
    ∃ (used : List TxAnswer) (rs : List Result), used.foldl State.txStep s = t ∧ t.results = s.results ++ rs ++ [.step r] := by
  induction answers generalizing s with
  | nil =>
    cases h
    exact absurd rfl hr
  | cons a answers ih =>
    unfold stepUntil at h
    split at h
    case h_1 hpending =>
      obtain ⟨used, rs, hrun, hresults⟩ := ih (s := s.txStep a) h
      exact ⟨a :: used, .step .pending :: rs, hrun, by simp [hresults, hpending]⟩
    case h_2 =>
      cases h
      exact ⟨[a], [], rfl, by simp⟩

/-- Stepping until `Complete`, when it gets there, has sent the rest of the frame in flight. -/
theorem stepUntil_complete (answers : List TxAnswer) {s t : State} (hcmd : s.tx.cmd ≠ .none)
    (h : stepUntil answers s = (t, .complete)) : t.txWire = s.txWire ++ s.tx.frame.drop s.tx.cursor.toNat := by
  obtain ⟨used, rs, hrun, hresults⟩ := stepUntil_eq_foldl answers h (by decide)
  obtain ⟨t', rs', hrun', hsent, hcomplete⟩ := State.foldl_txStep_sent used s hcmd
  obtain rfl : t' = t := hrun'.symm.trans hrun
  have hrs : rs' = rs ++ [.step .complete] := by simpa using hsent.results.symm.trans hresults
  obtain ⟨-, hseven⟩ := hcomplete.mp (by simp [hrs])
  have hrest : (s.tx.frame.drop s.tx.cursor.toNat).length = 7 - s.tx.cursor.toNat := by simp [TxState.frame, commandFrameOf]
  rw [hsent.txWire, List.take_of_length_le (by omega)]

/-- Collecting bytes touches no TX state, and ends with a frame held if it ends at all. -/
theorem collectUntil_eq (bytes : List Byte) {s t : State} {found : Bool} (h : collectUntil bytes s = (t, found)) :
    t.tx = s.tx ∧ t.txWire = s.txWire ∧ (found = true → t.rx.done = true) := by
  induction bytes generalizing s with
  | nil =>
    cases h
    exact ⟨rfl, rfl, fun hfalse => by cases hfalse⟩
  | cons b bytes ih =>
    unfold collectUntil at h
    split at h
    case isTrue hdone =>
      cases h
      exact ⟨rfl, rfl, fun _ => hdone⟩
    case isFalse => exact ih (s := s.rxByte b) h

/-- A call that sends a command and then does something else, when it completes, has stepped the command to its end. -/
theorem sendThen_complete {c : Command} {p : Half} {answers : List TxAnswer} {after : State → State × CallResult}
    {s t : State} {r : Option SensorData} (h : sendThen c p answers after s = (t, .complete r)) :
    ∃ u, stepUntil answers (s.txLoad c p) = (u, .complete) ∧ after u.txCleared = (t, .complete r) := by
  unfold sendThen at h
  split at h
  case h_1 u hsteps => exact ⟨u, hsteps, h⟩
  all_goals cases h

/-- Settles O57: the load is accepted, the steps have sent its frame, and the wait sends nothing and ends with a frame. -/
theorem intoActiveSendsTheSetModeFrame : Obligations.IntoActiveSendsTheSetModeFrame := by
  intro answers bytes s t r hfree hcall
  have hload := State.txLoad_of_free (c := .setMode) 1#16 hfree (by decide)
  obtain ⟨u, hsteps, hwait⟩ := sendThen_complete hcall
  rw [hload] at hsteps
  have hsent : u.txWire = s.txWire ++ (TxState.loaded .setMode 1#16).frame :=
    stepUntil_complete answers (fun hnone : Command.setMode = .none => by cases hnone) hsteps
  have hframe : (TxState.loaded .setMode 1#16).frame = [0x42#8, 0x4D#8, 0xE1#8, 0x00#8, 0x01#8, 0x01#8, 0x71#8] := by decide
  unfold awaitResponse at hwait
  split at hwait
  case h_2 => cases hwait
  case h_1 v hcollect =>
    cases hwait
    obtain ⟨htx, hwire, hdone⟩ := collectUntil_eq bytes hcollect
    exact ⟨by rw [hwire, State.txCleared_txWire, hsent, hframe], by rw [htx]; rfl, hdone rfl⟩

/-! ### The active read -/

@[simp] theorem State.askMeasurement_rx (s : State) : s.askMeasurement.rx = s.rx := by
  unfold State.askMeasurement
  split <;> rfl

@[simp] theorem State.askMeasurement_tx (s : State) : s.askMeasurement.tx = s.tx := by
  unfold State.askMeasurement
  split <;> rfl

@[simp] theorem State.askMeasurement_txWire (s : State) : s.askMeasurement.txWire = s.txWire := by
  unfold State.askMeasurement
  split <;> rfl

@[simp] theorem State.askMeasurement_draw (s : State) : s.askMeasurement.draw = s.draw := by
  unfold State.askMeasurement
  split <;> rfl

/-- Settles O58: each byte and query leaves the TX sub-block alone, and the read ends at the first held frame that validates. -/
theorem activeReadReturnsOnlyValidatedRecords : Obligations.ActiveReadReturnsOnlyValidatedRecords := by
  intro answers bytes s t res hcall
  replace hcall : readBroadcast bytes s = (t, res) := hcall
  induction bytes generalizing s with
  | nil =>
    cases hcall
    exact ⟨rfl, rfl, nofun, nofun⟩
  | cons b bytes ih =>
    unfold readBroadcast at hcall
    split at hcall
    case isFalse => exact ih (s.rxByte b) hcall
    case isTrue hdone =>
      split at hcall
      case isFalse =>
        obtain ⟨htx, hwire, hrest⟩ := ih _ hcall
        exact ⟨htx.trans (by simp), hwire.trans (by simp), hrest⟩
      case isTrue hvalid =>
        obtain ⟨rfl, rfl⟩ := Prod.mk.inj hcall
        refine ⟨by simp, by simp, nofun, fun r hcomplete => ⟨?ok, ?record⟩⟩
        case ok =>
          rw [State.rxOk_iff, State.validate_eq_of_rx_eq (s.rxByte b).askMeasurement_rx (s.rxByte b).askMeasurement_draw]
          exact ⟨by rw [State.askMeasurement_rx]; exact hdone, hvalid⟩
        case record =>
          cases hcomplete
          rw [State.rxFields, State.decodeRecord_eq_of_rx_eq (s.rxByte b).askMeasurement_rx (s.rxByte b).askMeasurement_draw]

end Sys2Proof.Machine
end
